-- ==== Sys2Proof/Word.lean ====
section
/-! DEFINITION. The word types of the block's interface: widths as 00_scope.md R8 lists them. -/

namespace Sys2Proof

/-- One byte: a payload byte, the host data bus (R8). -/
abbrev Byte := BitVec 8

/-- A register address: the 5-bit byte address of 20_memory.md R42. -/
abbrev RegAddr := BitVec 5

/-- A transaction word: 14 bits (30_encoding.md R60). -/
abbrev TWord := BitVec 14

/-- A decoded 20-bit code: humidity or temperature (10_state.md R33). -/
abbrev Code20 := BitVec 20

/-- The bit pattern of a binary32 number on the host's side (41_process.md R113). -/
abbrev Float32Bits := BitVec 32

end Sys2Proof
end

