-- ==== Sys2Proof/Syntax.lean ====
section
/-! DEFINITION. The block's instructions: one constructor for each of the 53 rows of
spec/opcode_table.json, in the table's order (30_encoding.md R63, R71). A rule without a file name
is in 40_register_access.md. -/

namespace Sys2Proof

/-- One decoded host transaction. A read carries no data: its D field is not decoded (30_encoding.md
R64). A row that covers several addresses or command codes carries the whole address `a` or code `d`,
and `Instr.wellFormed` says which of them lie in the row (log 9). -/
inductive Instr where
  /-- `rd.payload0`: read payload byte 0 (R80). -/
  | rdPayload0
  /-- `rd.payload1`: read payload byte 1 (R80). -/
  | rdPayload1
  /-- `rd.payload2`: read payload byte 2 (R80). -/
  | rdPayload2
  /-- `rd.payload3`: read payload byte 3 (R80). -/
  | rdPayload3
  /-- `rd.payload4`: read payload byte 4 (R80). -/
  | rdPayload4
  /-- `rd.payload5`: read payload byte 5 (R80). -/
  | rdPayload5
  /-- `rd.payload6`: read payload byte 6 (R80). -/
  | rdPayload6
  /-- `rd.ctrl`: read CTRL (R82). -/
  | rdCtrl
  /-- `rd.status`: read STATUS (R84). -/
  | rdStatus
  /-- `rd.crc`: read the CRC accumulator (42_crc.md R124). -/
  | rdCrc
  /-- `rd.cmd`: read CMD (R86). -/
  | rdCmd
  /-- `rd.hum0`: read byte 0 of HUM_RAW (R87). -/
  | rdHum0
  /-- `rd.hum1`: read byte 1 of HUM_RAW (R87). -/
  | rdHum1
  /-- `rd.hum2`: read byte 2 of HUM_RAW (R87). -/
  | rdHum2
  /-- `rd.temp0`: read byte 0 of TEMP_RAW (R88). -/
  | rdTemp0
  /-- `rd.temp1`: read byte 1 of TEMP_RAW (R88). -/
  | rdTemp1
  /-- `rd.temp2`: read byte 2 of TEMP_RAW (R88). -/
  | rdTemp2
  /-- `rd.rsvd` at 0x07 (R90). -/
  | rdRsvd07
  /-- `rd.rsvd` at 0x0F (R90). -/
  | rdRsvd0F
  /-- `rd.rsvd` at 0x13 (R90). -/
  | rdRsvd13
  /-- `rd.rsvd` at `a` in 0x14..0x17 (R90). -/
  | rdRsvd14 (a : RegAddr)
  /-- `rd.rsvd` at `a` in 0x18..0x1F (R90). -/
  | rdRsvd18 (a : RegAddr)
  /-- `wr.payload0`: write payload byte 0 (R81). -/
  | wrPayload0 (d : Byte)
  /-- `wr.payload1`: write payload byte 1 (R81). -/
  | wrPayload1 (d : Byte)
  /-- `wr.payload2`: write payload byte 2 (R81). -/
  | wrPayload2 (d : Byte)
  /-- `wr.payload3`: write payload byte 3 (R81). -/
  | wrPayload3 (d : Byte)
  /-- `wr.payload4`: write payload byte 4 (R81). -/
  | wrPayload4 (d : Byte)
  /-- `wr.payload5`: write payload byte 5 (R81). -/
  | wrPayload5 (d : Byte)
  /-- `wr.payload6`: write payload byte 6 (R81). -/
  | wrPayload6 (d : Byte)
  /-- `wr.ctrl`: write CTRL (R83). -/
  | wrCtrl (d : Byte)
  /-- `wr.ro` at STATUS (R85). -/
  | wrRoStatus (d : Byte)
  /-- `wr.crc`: feed one byte into the CRC engine (42_crc.md R125). -/
  | wrCrc (d : Byte)
  /-- `cmd.nop` (43_control_commands.md R140). -/
  | cmdNop
  /-- `cmd.process` (41_process.md R106). -/
  | cmdProcess
  /-- `cmd.crc_init` (42_crc.md R126). -/
  | cmdCrcInit
  /-- `cmd.clear` (43_control_commands.md R141). -/
  | cmdClear
  /-- `cmd.rsvd` with `d` in 0x04..0x07 (43_control_commands.md R142). -/
  | cmdRsvd04 (d : Byte)
  /-- `cmd.rsvd` with `d` in 0x08..0x0F (43_control_commands.md R142). -/
  | cmdRsvd08 (d : Byte)
  /-- `cmd.rsvd` with `d` in 0x10..0x1F (43_control_commands.md R142). -/
  | cmdRsvd10 (d : Byte)
  /-- `cmd.rsvd` with `d` in 0x20..0x3F (43_control_commands.md R142). -/
  | cmdRsvd20 (d : Byte)
  /-- `cmd.rsvd` with `d` in 0x40..0x7F (43_control_commands.md R142). -/
  | cmdRsvd40 (d : Byte)
  /-- `cmd.rsvd` with `d` in 0x80..0xFF (43_control_commands.md R142). -/
  | cmdRsvd80 (d : Byte)
  /-- `wr.ro` at HUM0 (R89). -/
  | wrRoHum0 (d : Byte)
  /-- `wr.ro` at HUM1 (R89). -/
  | wrRoHum1 (d : Byte)
  /-- `wr.ro` at HUM2 (R89). -/
  | wrRoHum2 (d : Byte)
  /-- `wr.ro` at TEMP0 (R89). -/
  | wrRoTemp0 (d : Byte)
  /-- `wr.ro` at TEMP1 (R89). -/
  | wrRoTemp1 (d : Byte)
  /-- `wr.ro` at TEMP2 (R89). -/
  | wrRoTemp2 (d : Byte)
  /-- `wr.rsvd` at 0x07 (R91). -/
  | wrRsvd07 (d : Byte)
  /-- `wr.rsvd` at 0x0F (R91). -/
  | wrRsvd0F (d : Byte)
  /-- `wr.rsvd` at 0x13 (R91). -/
  | wrRsvd13 (d : Byte)
  /-- `wr.rsvd` at `a` in 0x14..0x17 (R91). -/
  | wrRsvd14 (a : RegAddr) (d : Byte)
  /-- `wr.rsvd` at `a` in 0x18..0x1F (R91). -/
  | wrRsvd18 (a : RegAddr) (d : Byte)
  deriving DecidableEq, Repr

end Sys2Proof
end

