-- ==== Sys2Proof/WellFormed.lean ====
section
/-! DEFINITION. Which terms of `Instr` are instructions: a row that covers several addresses or
command codes holds one that lies in the row (opcode_table.json, 30_encoding.md R71). -/

namespace Sys2Proof

/-- `lo ≤ v ≤ hi` as numbers. -/
def inRange {n : Nat} (lo hi : Nat) (v : BitVec n) : Bool :=
  decide (lo ≤ v.toNat ∧ v.toNat ≤ hi)

/-- The check on one term. Only the multi-address and multi-code rows have something to check; every
8-bit D of a write and every other term is an instruction. -/
def Instr.wellFormed : Instr → Bool
  | .rdRsvd14 a => inRange 0x14 0x17 a
  | .rdRsvd18 a => inRange 0x18 0x1F a
  | .wrRsvd14 a _ => inRange 0x14 0x17 a
  | .wrRsvd18 a _ => inRange 0x18 0x1F a
  | .cmdRsvd04 d => inRange 0x04 0x07 d
  | .cmdRsvd08 d => inRange 0x08 0x0F d
  | .cmdRsvd10 d => inRange 0x10 0x1F d
  | .cmdRsvd20 d => inRange 0x20 0x3F d
  | .cmdRsvd40 d => inRange 0x40 0x7F d
  | .cmdRsvd80 d => inRange 0x80 0xFF d
  | .rdPayload0 | .rdPayload1 | .rdPayload2 | .rdPayload3 | .rdPayload4 | .rdPayload5 | .rdPayload6
  | .rdCtrl | .rdStatus | .rdCrc | .rdCmd | .rdHum0 | .rdHum1 | .rdHum2
  | .rdTemp0 | .rdTemp1 | .rdTemp2 | .rdRsvd07 | .rdRsvd0F | .rdRsvd13
  | .wrPayload0 _ | .wrPayload1 _ | .wrPayload2 _ | .wrPayload3 _ | .wrPayload4 _ | .wrPayload5 _
  | .wrPayload6 _ | .wrCtrl _ | .wrRoStatus _ | .wrCrc _
  | .cmdNop | .cmdProcess | .cmdCrcInit | .cmdClear
  | .wrRoHum0 _ | .wrRoHum1 _ | .wrRoHum2 _ | .wrRoTemp0 _ | .wrRoTemp1 _ | .wrRoTemp2 _
  | .wrRsvd07 _ | .wrRsvd0F _ | .wrRsvd13 _ => true

end Sys2Proof
end

