-- ==== Sys2Proof/Decode.lean ====
section
/-! DEFINITION. From transaction words to instructions and back (30_encoding.md). Decoding follows R63
and R65 field by field; the opcode table stands below it as data, so that the two can be compared. -/

namespace Sys2Proof

/-! ## The fields of a transaction word (R61) -/

/-- W, bit 13: a write. -/
def wordIsWrite (w : TWord) : Bool := w.getLsbD 13

/-- A, bits 12:8: the register address. -/
def wordAddr (w : TWord) : RegAddr := w.extractLsb' 8 5

/-- D, bits 7:0: the write data. -/
def wordData (w : TWord) : Byte := w.extractLsb' 0 8

/-- The word with fields W, A and D (R61: `{W, A, D}`). -/
def mkWord (write : Bool) (a : RegAddr) (d : Byte) : TWord := BitVec.ofBool write ++ a ++ d

/-! ## Decoding (R63, R65) -/

/-- The read column of R63; D is not looked at (R64). -/
def decodeRead (a : RegAddr) : Instr :=
  match a.toNat with
  | 0x00 => .rdPayload0
  | 0x01 => .rdPayload1
  | 0x02 => .rdPayload2
  | 0x03 => .rdPayload3
  | 0x04 => .rdPayload4
  | 0x05 => .rdPayload5
  | 0x06 => .rdPayload6
  | 0x07 => .rdRsvd07
  | 0x08 => .rdCtrl
  | 0x09 => .rdStatus
  | 0x0A => .rdCrc
  | 0x0B => .rdCmd
  | 0x0C => .rdHum0
  | 0x0D => .rdHum1
  | 0x0E => .rdHum2
  | 0x0F => .rdRsvd0F
  | 0x10 => .rdTemp0
  | 0x11 => .rdTemp1
  | 0x12 => .rdTemp2
  | 0x13 => .rdRsvd13
  | n => if n < 0x18 then .rdRsvd14 a else .rdRsvd18 a

/-- The command a write of `d` to CMD selects (R65). -/
def decodeCommand (d : Byte) : Instr :=
  match d.toNat with
  | 0x00 => .cmdNop
  | 0x01 => .cmdProcess
  | 0x02 => .cmdCrcInit
  | 0x03 => .cmdClear
  | n =>
    if n < 0x08 then .cmdRsvd04 d
    else if n < 0x10 then .cmdRsvd08 d
    else if n < 0x20 then .cmdRsvd10 d
    else if n < 0x40 then .cmdRsvd20 d
    else if n < 0x80 then .cmdRsvd40 d
    else .cmdRsvd80 d

/-- The write column of R63. -/
def decodeWrite (a : RegAddr) (d : Byte) : Instr :=
  match a.toNat with
  | 0x00 => .wrPayload0 d
  | 0x01 => .wrPayload1 d
  | 0x02 => .wrPayload2 d
  | 0x03 => .wrPayload3 d
  | 0x04 => .wrPayload4 d
  | 0x05 => .wrPayload5 d
  | 0x06 => .wrPayload6 d
  | 0x07 => .wrRsvd07 d
  | 0x08 => .wrCtrl d
  | 0x09 => .wrRoStatus d
  | 0x0A => .wrCrc d
  | 0x0B => decodeCommand d
  | 0x0C => .wrRoHum0 d
  | 0x0D => .wrRoHum1 d
  | 0x0E => .wrRoHum2 d
  | 0x0F => .wrRsvd0F d
  | 0x10 => .wrRoTemp0 d
  | 0x11 => .wrRoTemp1 d
  | 0x12 => .wrRoTemp2 d
  | 0x13 => .wrRsvd13 d
  | n => if n < 0x18 then .wrRsvd14 a d else .wrRsvd18 a d

/-- Decoding, total over all 2^14 words (R63, R66). -/
def decode (w : TWord) : Instr :=
  if wordIsWrite w then decodeWrite (wordAddr w) (wordData w) else decodeRead (wordAddr w)

/-- Why a number is no transaction word. -/
inductive DecodeReject where
  /-- It has a bit above bit 13: there is one format and it has 14 bits (R60). -/
  | widerThanAWord
  deriving DecidableEq, Repr

/-- Decoding of any number of bits: a number of more than 14 bits is rejected by name (log 5). -/
def decodeBits (n : Nat) : Except DecodeReject Instr :=
  if n < 2 ^ 14 then .ok (decode (BitVec.ofNat 14 n)) else .error .widerThanAWord

/-- The transaction word in `nbits` bits of value `w`, numbered as opcode_table.json numbers them;
bits above `nbits` are zero, and a value wider than 14 bits is no word. -/
def tableWord (nbits w : Nat) : Option TWord :=
  let n := w % 2 ^ nbits
  if n < 2 ^ 14 then some (BitVec.ofNat 14 n) else none

/-- The instruction the decoder reads from those bits. -/
def decodeTableWord (nbits w : Nat) : Option Instr :=
  match decodeBits (w % 2 ^ nbits) with
  | .ok i => some i
  | .error _ => none

/-! ## Encoding, from the same tables -/

/-- The W field of an instruction (R63): is it a write? -/
def Instr.isWrite : Instr → Bool
  | .rdPayload0 | .rdPayload1 | .rdPayload2 | .rdPayload3 | .rdPayload4 | .rdPayload5
  | .rdPayload6 | .rdCtrl | .rdStatus | .rdCrc | .rdCmd | .rdHum0 | .rdHum1 | .rdHum2
  | .rdTemp0 | .rdTemp1 | .rdTemp2 | .rdRsvd07 | .rdRsvd0F | .rdRsvd13 | .rdRsvd14 _
  | .rdRsvd18 _ => false
  | .wrPayload0 _ | .wrPayload1 _ | .wrPayload2 _ | .wrPayload3 _ | .wrPayload4 _
  | .wrPayload5 _ | .wrPayload6 _ | .wrCtrl _ | .wrRoStatus _ | .wrCrc _ | .cmdNop
  | .cmdProcess | .cmdCrcInit | .cmdClear | .cmdRsvd04 _ | .cmdRsvd08 _ | .cmdRsvd10 _
  | .cmdRsvd20 _ | .cmdRsvd40 _ | .cmdRsvd80 _ | .wrRoHum0 _ | .wrRoHum1 _ | .wrRoHum2 _
  | .wrRoTemp0 _ | .wrRoTemp1 _ | .wrRoTemp2 _ | .wrRsvd07 _ | .wrRsvd0F _ | .wrRsvd13 _
  | .wrRsvd14 _ _ | .wrRsvd18 _ _ => true

/-- The A field of an instruction: the register address it names (20_memory.md R43). -/
def Instr.addr : Instr → RegAddr
  | .rdPayload0 | .wrPayload0 _ => 0x00#5
  | .rdPayload1 | .wrPayload1 _ => 0x01#5
  | .rdPayload2 | .wrPayload2 _ => 0x02#5
  | .rdPayload3 | .wrPayload3 _ => 0x03#5
  | .rdPayload4 | .wrPayload4 _ => 0x04#5
  | .rdPayload5 | .wrPayload5 _ => 0x05#5
  | .rdPayload6 | .wrPayload6 _ => 0x06#5
  | .rdRsvd07 | .wrRsvd07 _ => 0x07#5
  | .rdCtrl | .wrCtrl _ => 0x08#5
  | .rdStatus | .wrRoStatus _ => 0x09#5
  | .rdCrc | .wrCrc _ => 0x0A#5
  | .rdCmd | .cmdNop | .cmdProcess | .cmdCrcInit | .cmdClear | .cmdRsvd04 _ | .cmdRsvd08 _
  | .cmdRsvd10 _ | .cmdRsvd20 _ | .cmdRsvd40 _ | .cmdRsvd80 _ => 0x0B#5
  | .rdHum0 | .wrRoHum0 _ => 0x0C#5
  | .rdHum1 | .wrRoHum1 _ => 0x0D#5
  | .rdHum2 | .wrRoHum2 _ => 0x0E#5
  | .rdRsvd0F | .wrRsvd0F _ => 0x0F#5
  | .rdTemp0 | .wrRoTemp0 _ => 0x10#5
  | .rdTemp1 | .wrRoTemp1 _ => 0x11#5
  | .rdTemp2 | .wrRoTemp2 _ => 0x12#5
  | .rdRsvd13 | .wrRsvd13 _ => 0x13#5
  | .rdRsvd14 a | .rdRsvd18 a | .wrRsvd14 a _ | .wrRsvd18 a _ => a

/-- The D field of an instruction; the assembler writes 0 in a read (R69). -/
def Instr.data : Instr → Byte
  | .rdPayload0 | .rdPayload1 | .rdPayload2 | .rdPayload3 | .rdPayload4 | .rdPayload5
  | .rdPayload6 | .rdCtrl | .rdStatus | .rdCrc | .rdCmd | .rdHum0 | .rdHum1 | .rdHum2
  | .rdTemp0 | .rdTemp1 | .rdTemp2 | .rdRsvd07 | .rdRsvd0F | .rdRsvd13 | .rdRsvd14 _
  | .rdRsvd18 _ => 0x00#8
  | .cmdNop => 0x00#8
  | .cmdProcess => 0x01#8
  | .cmdCrcInit => 0x02#8
  | .cmdClear => 0x03#8
  | .wrPayload0 d | .wrPayload1 d | .wrPayload2 d | .wrPayload3 d | .wrPayload4 d
  | .wrPayload5 d | .wrPayload6 d | .wrCtrl d | .wrRoStatus d | .wrCrc d | .cmdRsvd04 d
  | .cmdRsvd08 d | .cmdRsvd10 d | .cmdRsvd20 d | .cmdRsvd40 d | .cmdRsvd80 d | .wrRoHum0 d
  | .wrRoHum1 d | .wrRoHum2 d | .wrRoTemp0 d | .wrRoTemp1 d | .wrRoTemp2 d | .wrRsvd07 d
  | .wrRsvd0F d | .wrRsvd13 d | .wrRsvd14 _ d | .wrRsvd18 _ d => d

/-- The transaction word of an instruction. -/
def encode (i : Instr) : TWord := mkWord i.isWrite i.addr i.data

/-! ## The instructions of one payload byte, by its number (R80, R81) -/

/-- `rd.payloadN`. -/
def Instr.payloadRead : Fin 7 → Instr
  | 0 => .rdPayload0 | 1 => .rdPayload1 | 2 => .rdPayload2 | 3 => .rdPayload3
  | 4 => .rdPayload4 | 5 => .rdPayload5 | 6 => .rdPayload6

/-- `wr.payloadN`. -/
def Instr.payloadWrite (n : Fin 7) (d : Byte) : Instr :=
  match n with
  | 0 => .wrPayload0 d | 1 => .wrPayload1 d | 2 => .wrPayload2 d | 3 => .wrPayload3 d
  | 4 => .wrPayload4 d | 5 => .wrPayload5 d | 6 => .wrPayload6 d

/-! ## The opcode table as data (R71) -/

/-- The match and mask of one row of opcode_table.json. -/
structure TableRow where
  pattern : TWord
  mask : TWord
  deriving DecidableEq, Repr

/-- A word lies in a row when its masked bits are the row's pattern. -/
def TableRow.covers (r : TableRow) (w : TWord) : Bool := w &&& r.mask == r.pattern

/-- The row of opcode_table.json an instruction is decoded from. -/
def Instr.tableRow : Instr → TableRow
  | .rdPayload0 => ⟨0x0000, 0x3F00⟩
  | .rdPayload1 => ⟨0x0100, 0x3F00⟩
  | .rdPayload2 => ⟨0x0200, 0x3F00⟩
  | .rdPayload3 => ⟨0x0300, 0x3F00⟩
  | .rdPayload4 => ⟨0x0400, 0x3F00⟩
  | .rdPayload5 => ⟨0x0500, 0x3F00⟩
  | .rdPayload6 => ⟨0x0600, 0x3F00⟩
  | .rdCtrl => ⟨0x0800, 0x3F00⟩
  | .rdStatus => ⟨0x0900, 0x3F00⟩
  | .rdCrc => ⟨0x0A00, 0x3F00⟩
  | .rdCmd => ⟨0x0B00, 0x3F00⟩
  | .rdHum0 => ⟨0x0C00, 0x3F00⟩
  | .rdHum1 => ⟨0x0D00, 0x3F00⟩
  | .rdHum2 => ⟨0x0E00, 0x3F00⟩
  | .rdTemp0 => ⟨0x1000, 0x3F00⟩
  | .rdTemp1 => ⟨0x1100, 0x3F00⟩
  | .rdTemp2 => ⟨0x1200, 0x3F00⟩
  | .rdRsvd07 => ⟨0x0700, 0x3F00⟩
  | .rdRsvd0F => ⟨0x0F00, 0x3F00⟩
  | .rdRsvd13 => ⟨0x1300, 0x3F00⟩
  | .rdRsvd14 _ => ⟨0x1400, 0x3C00⟩
  | .rdRsvd18 _ => ⟨0x1800, 0x3800⟩
  | .wrPayload0 _ => ⟨0x2000, 0x3F00⟩
  | .wrPayload1 _ => ⟨0x2100, 0x3F00⟩
  | .wrPayload2 _ => ⟨0x2200, 0x3F00⟩
  | .wrPayload3 _ => ⟨0x2300, 0x3F00⟩
  | .wrPayload4 _ => ⟨0x2400, 0x3F00⟩
  | .wrPayload5 _ => ⟨0x2500, 0x3F00⟩
  | .wrPayload6 _ => ⟨0x2600, 0x3F00⟩
  | .wrCtrl _ => ⟨0x2800, 0x3F00⟩
  | .wrRoStatus _ => ⟨0x2900, 0x3F00⟩
  | .wrCrc _ => ⟨0x2A00, 0x3F00⟩
  | .cmdNop => ⟨0x2B00, 0x3FFF⟩
  | .cmdProcess => ⟨0x2B01, 0x3FFF⟩
  | .cmdCrcInit => ⟨0x2B02, 0x3FFF⟩
  | .cmdClear => ⟨0x2B03, 0x3FFF⟩
  | .cmdRsvd04 _ => ⟨0x2B04, 0x3FFC⟩
  | .cmdRsvd08 _ => ⟨0x2B08, 0x3FF8⟩
  | .cmdRsvd10 _ => ⟨0x2B10, 0x3FF0⟩
  | .cmdRsvd20 _ => ⟨0x2B20, 0x3FE0⟩
  | .cmdRsvd40 _ => ⟨0x2B40, 0x3FC0⟩
  | .cmdRsvd80 _ => ⟨0x2B80, 0x3F80⟩
  | .wrRoHum0 _ => ⟨0x2C00, 0x3F00⟩
  | .wrRoHum1 _ => ⟨0x2D00, 0x3F00⟩
  | .wrRoHum2 _ => ⟨0x2E00, 0x3F00⟩
  | .wrRoTemp0 _ => ⟨0x3000, 0x3F00⟩
  | .wrRoTemp1 _ => ⟨0x3100, 0x3F00⟩
  | .wrRoTemp2 _ => ⟨0x3200, 0x3F00⟩
  | .wrRsvd07 _ => ⟨0x2700, 0x3F00⟩
  | .wrRsvd0F _ => ⟨0x2F00, 0x3F00⟩
  | .wrRsvd13 _ => ⟨0x3300, 0x3F00⟩
  | .wrRsvd14 _ _ => ⟨0x3400, 0x3C00⟩
  | .wrRsvd18 _ _ => ⟨0x3800, 0x3800⟩

/-- The read rows of opcode_table.json, in its order. -/
def tableReads : List TableRow :=
  [⟨0x0000, 0x3F00⟩, ⟨0x0100, 0x3F00⟩, ⟨0x0200, 0x3F00⟩, ⟨0x0300, 0x3F00⟩,
   ⟨0x0400, 0x3F00⟩, ⟨0x0500, 0x3F00⟩, ⟨0x0600, 0x3F00⟩, ⟨0x0800, 0x3F00⟩,
   ⟨0x0900, 0x3F00⟩, ⟨0x0A00, 0x3F00⟩, ⟨0x0B00, 0x3F00⟩, ⟨0x0C00, 0x3F00⟩,
   ⟨0x0D00, 0x3F00⟩, ⟨0x0E00, 0x3F00⟩, ⟨0x1000, 0x3F00⟩, ⟨0x1100, 0x3F00⟩,
   ⟨0x1200, 0x3F00⟩, ⟨0x0700, 0x3F00⟩, ⟨0x0F00, 0x3F00⟩, ⟨0x1300, 0x3F00⟩,
   ⟨0x1400, 0x3C00⟩, ⟨0x1800, 0x3800⟩]

/-- The rows from `wr.payload0` to the last `cmd.rsvd`. -/
def tableWrites : List TableRow :=
  [⟨0x2000, 0x3F00⟩, ⟨0x2100, 0x3F00⟩, ⟨0x2200, 0x3F00⟩, ⟨0x2300, 0x3F00⟩,
   ⟨0x2400, 0x3F00⟩, ⟨0x2500, 0x3F00⟩, ⟨0x2600, 0x3F00⟩, ⟨0x2800, 0x3F00⟩,
   ⟨0x2900, 0x3F00⟩, ⟨0x2A00, 0x3F00⟩, ⟨0x2B00, 0x3FFF⟩, ⟨0x2B01, 0x3FFF⟩,
   ⟨0x2B02, 0x3FFF⟩, ⟨0x2B03, 0x3FFF⟩, ⟨0x2B04, 0x3FFC⟩, ⟨0x2B08, 0x3FF8⟩,
   ⟨0x2B10, 0x3FF0⟩, ⟨0x2B20, 0x3FE0⟩, ⟨0x2B40, 0x3FC0⟩, ⟨0x2B80, 0x3F80⟩]

/-- The rows of the writes that are ignored: `wr.ro` at the results, `wr.rsvd`. -/
def tableIgnored : List TableRow :=
  [⟨0x2C00, 0x3F00⟩, ⟨0x2D00, 0x3F00⟩, ⟨0x2E00, 0x3F00⟩, ⟨0x3000, 0x3F00⟩,
   ⟨0x3100, 0x3F00⟩, ⟨0x3200, 0x3F00⟩, ⟨0x2700, 0x3F00⟩, ⟨0x2F00, 0x3F00⟩,
   ⟨0x3300, 0x3F00⟩, ⟨0x3400, 0x3C00⟩, ⟨0x3800, 0x3800⟩]

/-- All 53 rows. -/
def opcodeTable : List TableRow := tableReads ++ tableWrites ++ tableIgnored

end Sys2Proof
end

