-- ==== Sys2Proof/Machine/State.lean ====
section
/-! DEFINITION. What the machine is made of: the block's state, exactly the tuple of 10_state.md R20,
and beside it the ports through which the host drives and observes it (20_memory.md R40). -/

namespace Sys2Proof.Machine

/-! ## The block's state (10_state.md R20) -/

/-- The sensor variant (R26, R27); AHT3x takes the AHT2x setting (00_scope.md R2). -/
inductive SensorVariant where
  | aht1x
  | aht2x
  deriving DecidableEq, Repr

/-- The outcome of the last PROCESS (R29). -/
inductive ProcessResult where
  | none
  | ok
  | timeout
  | badcrc
  deriving DecidableEq, Repr

/-- The payload buffer: byte i of the 7-byte reading, in arrival order (R24). -/
structure Payload where
  p0 : Byte
  p1 : Byte
  p2 : Byte
  p3 : Byte
  p4 : Byte
  p5 : Byte
  p6 : Byte
  deriving DecidableEq, Repr

/-- The block's whole state, 108 bits (R20). -/
structure Block where
  payload : Payload
  variant : SensorVariant
  crcAcc : Byte
  result : ProcessResult
  illegal : Bool
  humRaw : Code20
  tempRaw : Code20
  deriving DecidableEq, Repr

/-! ## The ports (20_memory.md R40) -/

/-- What the host drives on the input ports in one clock cycle. `rstN = false` is reset asserted. -/
structure HostCycle where
  rstN : Bool
  sel : Bool
  we : Bool
  addr : RegAddr
  wdata : Byte
  deriving DecidableEq, Repr

/-- The machine: the block, the rdata port, and the host's two ends of a run. `rdata` is what the
port carried in the last cycle (R41). `observed` is the rdata values the reads returned, oldest
first (70_reset_and_hazards.md R187; log 2). `pending` is the cycles the host is still to drive, the
next one first (log 1). -/
structure State where
  block : Block
  rdata : Byte
  observed : List Byte
  pending : List HostCycle
  deriving DecidableEq, Repr

/-! ## Reset (10_state.md R35, 70_reset_and_hazards.md R180) -/

/-- Every payload byte 0x00 (R24, R35). -/
def Payload.reset : Payload := ⟨0x00#8, 0x00#8, 0x00#8, 0x00#8, 0x00#8, 0x00#8, 0x00#8⟩

/-- The reset value of every state element (R35). -/
def Block.reset : Block where
  payload := Payload.reset
  variant := .aht2x
  crcAcc := 0xFF#8
  result := .none
  illegal := false
  humRaw := 0x00000#20
  tempRaw := 0x00000#20

/-- The machine right after reset: the block's reset values, rdata 0x00 (R180); the host has observed
nothing and has nothing pending (log 1, log 2). -/
def State.reset : State where
  block := Block.reset
  rdata := 0x00#8
  observed := []
  pending := []

/-! ## Stops -/

/-- Why the machine can stop with a fault: there is no reason. The block never traps and every
transaction word has an effect (60_exceptions.md R150, 30_encoding.md R66; log 14), so this type has
no constructor. -/
inductive Fault : Type
  deriving DecidableEq, Repr

/-- Why a step can be refused. -/
inductive Refusal where
  /-- Raised by `exec` alone, for an instruction that has no meaning yet (safe). Every instruction has
  one, so nothing raises it. -/
  | notModelled (mnemonic : String)
  deriving DecidableEq, Repr

/-- What one instruction or one step answers. -/
abbrev StepOutcome := Host.Outcome State Fault Refusal

end Sys2Proof.Machine
end

