-- ==== Sys2Proof/Machine/Parameters.lean ====
section
/-! DEFINITION. The numeric parameters of the block (00_scope.md R8), each as the spec states it
(92_eei_decisions.md D25; log 6). -/

namespace Sys2Proof.Machine

/-- The busy mask on payload byte 0 (41_process.md R101). -/
def busyMask : Byte := 0x40#8

/-- The CRC polynomial 0x31, its x^8 term implicit (42_crc.md R120, R122). -/
def crcPoly : Byte := 0x31#8

/-- The CRC's initial value (42_crc.md R121, R126). -/
def crcInit : Byte := 0xFF#8

/-- The mask of a 20-bit code (41_process.md R104). -/
def codeMask : BitVec 24 := 0xFFFFF#24

end Sys2Proof.Machine
end

