-- ==== Sys2Proof/Machine/Operands.lean ====
section
/-! DEFINITION. The operand forms: the bit of D a narrower register keeps, the payload bytes by
number, and the bytes of a 20-bit code on the 8-bit data bus. The only operand is D, an 8-bit
unsigned value used as is (30_encoding.md R62), and the only addressing mode is the absolute
address in the word. -/

namespace Sys2Proof.Machine

/-! ## CTRL.VARIANT (10_state.md R26) -/

/-- The bit of a variant: 0 = AHT1x, 1 = AHT2x. -/
def SensorVariant.bit : SensorVariant → BitVec 1
  | .aht1x => 0#1
  | .aht2x => 1#1

/-- `VARIANT <- D[0]`; D[7:1] is discarded (40_register_access.md R83). -/
def variantOfData (d : Byte) : SensorVariant := if d.getLsbD 0 then .aht2x else .aht1x

/-! ## The payload bytes by number (10_state.md R24) -/

/-- `P[n]`. -/
def Payload.get (p : Payload) : Fin 7 → Byte
  | 0 => p.p0 | 1 => p.p1 | 2 => p.p2 | 3 => p.p3 | 4 => p.p4 | 5 => p.p5 | 6 => p.p6

/-- `P[n] <- d`. -/
def Payload.set (p : Payload) (n : Fin 7) (d : Byte) : Payload :=
  match n with
  | 0 => { p with p0 := d }
  | 1 => { p with p1 := d }
  | 2 => { p with p2 := d }
  | 3 => { p with p3 := d }
  | 4 => { p with p4 := d }
  | 5 => { p with p5 := d }
  | 6 => { p with p6 := d }

/-! ## The three bytes of a code, least significant first (20_memory.md R45, R87, R88) -/

/-- Bits 7:0. -/
def codeByte0 (c : Code20) : Byte := c.extractLsb' 0 8

/-- Bits 15:8. -/
def codeByte1 (c : Code20) : Byte := c.extractLsb' 8 8

/-- Bits 19:16, zero-extended. -/
def codeByte2 (c : Code20) : Byte := (c.extractLsb' 16 4).setWidth 8

end Sys2Proof.Machine
end

