-- ==== Sys2Proof/Machine/Flags.lean ====
section
/-! DEFINITION. The flags: RESULT, VALID, ILLEGAL and the STATUS byte they read as (10_state.md R28 to
R30). The block has no other flag (R37). -/

namespace Sys2Proof.Machine

/-- The 2-bit code of RESULT (R29). -/
def ProcessResult.code : ProcessResult → BitVec 2
  | .none => 0b00#2
  | .ok => 0b01#2
  | .timeout => 0b10#2
  | .badcrc => 0b11#2

/-- VALID: 1 exactly when RESULT = OK; it holds no state of its own (R28). -/
def Block.valid (b : Block) : Bool := b.result.code == 0b01#2

/-- A flag as a byte with it in bit 0. -/
def flagByte (f : Bool) : Byte := if f then 1#8 else 0#8

/-- `(ILLEGAL << 3) | (VALID << 2) | RESULT` (40_register_access.md R84). -/
def Block.status (b : Block) : Byte :=
  (flagByte b.illegal <<< 3) ||| (flagByte b.valid <<< 2) ||| b.result.code.setWidth 8

end Sys2Proof.Machine
end

