-- ==== Sys2Proof/Machine/Crc8.lean ====
section
/-! DEFINITION. The CRC-8 function (42_crc.md R120 to R122): polynomial 0x31, initial value 0xFF, most
significant bit first, no reflection, no final XOR. -/

namespace Sys2Proof.Machine

/-- One of the eight shifts of R120: the top bit is tested before the shift and dropped by it. -/
def crc8Shift (c : Byte) : Byte := if c.getLsbD 7 then (c <<< 1) ^^^ crcPoly else c <<< 1

/-- `n` shifts. -/
def crc8Shifts : Nat → Byte → Byte
  | 0, c => c
  | n + 1, c => crc8Shifts n (crc8Shift c)

/-- `crc8_update(c, b)` (R120). -/
def crc8Update (c b : Byte) : Byte := crc8Shifts 8 (c ^^^ b)

/-- `crc8(init, bytes)`: the left fold of `crc8_update` (R121). -/
def crc8 (init : Byte) : List Byte → Byte
  | [] => init
  | b :: bs => crc8 (crc8Update init b) bs

end Sys2Proof.Machine
end

