-- ==== Sys2Proof/Machine/Ops.lean ====
section
/-! DEFINITION. The named operations the meanings share: answering a read, completing a write, one
update for each element of the block, the host's next cycle, reset. There is no exception to take
and none to return from (60_exceptions.md R150, R156, R157): an error outcome is a write to RESULT or
ILLEGAL. There is no memory (20_memory.md R42; log 10). -/

namespace Sys2Proof.Machine

/-! ## One update for each state element (10_state.md R20) -/

/-- `P[n] <- d`. -/
def Block.setPayload (b : Block) (n : Fin 7) (d : Byte) : Block :=
  { b with payload := b.payload.set n d }

/-- `VARIANT <- v`. -/
def Block.setVariant (b : Block) (v : SensorVariant) : Block := { b with variant := v }

/-- `CRC_ACC <- c`. -/
def Block.setCrcAcc (b : Block) (c : Byte) : Block := { b with crcAcc := c }

/-- `RESULT <- r`, with the codes that go with it: an outcome and its codes are always written
together (41_process.md R106, 43_control_commands.md R141). -/
def Block.setOutcome (b : Block) (r : ProcessResult) (hum temp : Code20) : Block :=
  { b with result := r, humRaw := hum, tempRaw := temp }

/-- `ILLEGAL <- f`. -/
def Block.setIllegal (b : Block) (f : Bool) : Block := { b with illegal := f }

/-! ## Completing a transaction (20_memory.md R41) -/

/-- The machine after a read that returned `v`: the rdata port carried `v`, the host has observed it,
the block is as it was. -/
def State.answered (s : State) (v : Byte) : State :=
  { s with rdata := v, observed := s.observed ++ [v] }

/-- The machine after a cycle that leaves the block as `b` and is no read: rdata is 0x00
(20_memory.md R40). -/
def State.committed (s : State) (b : Block) : State := { s with block := b, rdata := 0x00#8 }

/-- A read transaction completes with the value `v`. -/
def answerRead (v : Byte) (s : State) : StepOutcome := .next (s.answered v)

/-- A write transaction completes, leaving the block as `b`. -/
def completeWrite (b : Block) (s : State) : StepOutcome := .next (s.committed b)

/-! ## The host's cycles -/

/-- A cycle with no transaction: sel = 0. The other pins do not matter and are 0. -/
def HostCycle.idle : HostCycle := ⟨true, false, false, 0x00#5, 0x00#8⟩

/-- A cycle with reset asserted. -/
def HostCycle.resetCycle : HostCycle := ⟨false, false, false, 0x00#5, 0x00#8⟩

/-- The cycle that presents the transaction word `w` (30_encoding.md R60). -/
def HostCycle.ofWord (w : TWord) : HostCycle :=
  ⟨true, true, wordIsWrite w, wordAddr w, wordData w⟩

/-- `MemRead(a, 1)`: one read transaction (00_scope.md R10). -/
def HostCycle.memRead (a : RegAddr) : HostCycle := ⟨true, true, false, a, 0x00#8⟩

/-- `MemWrite(a, 1, v)`: one write transaction (00_scope.md R10). -/
def HostCycle.memWrite (a : RegAddr) (v : Byte) : HostCycle := ⟨true, true, true, a, v⟩

/-- A transaction is presented: sel = 1 and rst_n = 1 (20_memory.md R41). -/
def HostCycle.isTransaction (c : HostCycle) : Bool := c.rstN && c.sel

/-- The transaction word on the pins: W is `we`, A is `addr`, D is `wdata` (30_encoding.md R60). -/
def HostCycle.word (c : HostCycle) : TWord := mkWord c.we c.addr c.wdata

/-- The cycle the host drives next, and the machine once it has been taken from the host's stream.
When the stream is at its end the host presents nothing: an idle cycle (log 3). -/
def State.takeCycle (s : State) : HostCycle × State :=
  match s.pending with
  | [] => (HostCycle.idle, s)
  | c :: rest => (c, { s with pending := rest })

/-- The machine with `c` as the next cycle the host drives. -/
def State.present (s : State) (c : HostCycle) : State := { s with pending := c :: s.pending }

/-- The cycle that presents the word in those table bits; bits that are no transaction word present
nothing (log 5). -/
def HostCycle.ofTableBits (nbits w : Nat) : HostCycle :=
  match tableWord nbits w with
  | some tw => HostCycle.ofWord tw
  | none => HostCycle.idle

/-! ## Cycles without a transaction -/

/-- Reset: every state element takes its reset value, sel is ignored, rdata is 0x00
(70_reset_and_hazards.md R180; log 4). -/
def resetBlock (s : State) : StepOutcome := completeWrite Block.reset s

/-- No transaction: the block keeps its state, rdata is 0x00 (20_memory.md R40, R41). -/
def idleCycle (s : State) : StepOutcome := completeWrite s.block s

end Sys2Proof.Machine
end

