-- ==== Sys2Proof/Machine/Control.lean ====
section
/-! DEFINITION. The control commands and the reserved command codes (43_control_commands.md R140 to
R143). -/

namespace Sys2Proof.Machine

/-- Nothing (R140). -/
def execCmdNop (s : State) : StepOutcome := completeWrite s.block s

/-- `RESULT <- NONE, HUM_RAW <- 0, TEMP_RAW <- 0, ILLEGAL <- 0` (R141). -/
def execCmdClear (s : State) : StepOutcome :=
  completeWrite ((s.block.setOutcome .none 0x00000#20 0x00000#20).setIllegal false) s

/-- What every reserved command code does: `ILLEGAL <- 1`, nothing else; which code it was is not
recorded (R142). -/
def recordIllegal (_d : Byte) (s : State) : StepOutcome := completeWrite (s.block.setIllegal true) s

/-- `x[ILLEGAL] <- 1`, for D in 0x04..0x07 (R142). -/
def execCmdRsvd04 (d : Byte) (s : State) : StepOutcome := recordIllegal d s

/-- `x[ILLEGAL] <- 1`, for D in 0x08..0x0F (R142). -/
def execCmdRsvd08 (d : Byte) (s : State) : StepOutcome := recordIllegal d s

/-- `x[ILLEGAL] <- 1`, for D in 0x10..0x1F (R142). -/
def execCmdRsvd10 (d : Byte) (s : State) : StepOutcome := recordIllegal d s

/-- `x[ILLEGAL] <- 1`, for D in 0x20..0x3F (R142). -/
def execCmdRsvd20 (d : Byte) (s : State) : StepOutcome := recordIllegal d s

/-- `x[ILLEGAL] <- 1`, for D in 0x40..0x7F (R142). -/
def execCmdRsvd40 (d : Byte) (s : State) : StepOutcome := recordIllegal d s

/-- `x[ILLEGAL] <- 1`, for D in 0x80..0xFF (R142). -/
def execCmdRsvd80 (d : Byte) (s : State) : StepOutcome := recordIllegal d s

end Sys2Proof.Machine
end

