-- ==== Sys2Proof/Machine/CrcEngine.lean ====
section
/-! DEFINITION. The streaming CRC engine's instructions (42_crc.md R124 to R127). -/

namespace Sys2Proof.Machine

/-- `rdata <- x[CRC_ACC]` (R124). -/
def execRdCrc (s : State) : StepOutcome := answerRead s.block.crcAcc s

/-- `x[CRC_ACC] <- crc8_update(x[CRC_ACC], D)` (R125). -/
def execWrCrc (d : Byte) (s : State) : StepOutcome :=
  completeWrite (s.block.setCrcAcc (crc8Update s.block.crcAcc d)) s

/-- `x[CRC_ACC] <- 0xFF` (R126). -/
def execCmdCrcInit (s : State) : StepOutcome := completeWrite (s.block.setCrcAcc crcInit) s

end Sys2Proof.Machine
end

