-- ==== Sys2Proof/Machine/PayloadFields.lean ====
section
/-! DEFINITION. The payload's layout and field functions (41_process.md R100 to R105). -/

namespace Sys2Proof.Machine

/-- The payload as one 56-bit value, P0 in bits 55:48 (R100). -/
def Payload.word (p : Payload) : BitVec 56 := p.p0 ++ p.p1 ++ p.p2 ++ p.p3 ++ p.p4 ++ p.p5 ++ p.p6

/-- `busy(P) = ((P[0] & 0x40) != 0)` (R101). -/
def Payload.busy (p : Payload) : Bool := p.p0 &&& busyMask != 0x00#8

/-- The bytes the CRC covers: 0 to 5 inclusive (00_scope.md R8, 42_crc.md R121). -/
def Payload.crcBytes (p : Payload) : List Byte := [p.p0, p.p1, p.p2, p.p3, p.p4, p.p5]

/-- The payload CRC: `crc8(0xFF, [P0, .., P5])` (42_crc.md R121). -/
def Payload.crc (p : Payload) : Byte := crc8 crcInit p.crcBytes

/-- `crc_ok(P)` (R102). -/
def Payload.crcOk (p : Payload) : Bool := p.crc == p.p6

/-- `{a, b, c}` as the source forms it: `(a << 16) | (b << 8) | c` in 24 bits (R103, R104). -/
def joinBytes (a b c : Byte) : BitVec 24 :=
  (a.setWidth 24 <<< 16) ||| (b.setWidth 24 <<< 8) ||| c.setWidth 24

/-- `hum_raw(P) = ((P[1] << 16) | (P[2] << 8) | P[3]) >> 4` (R103). -/
def Payload.humRaw (p : Payload) : Code20 := (joinBytes p.p1 p.p2 p.p3 >>> 4).setWidth 20

/-- `temp_raw(P) = ((P[3] << 16) | (P[4] << 8) | P[5]) & 0xFFFFF` (R104). -/
def Payload.tempRaw (p : Payload) : Code20 := (joinBytes p.p3 p.p4 p.p5 &&& codeMask).setWidth 20

/-- The inverse of R105: the payload with status byte `status`, codes `h` and `t` packed into P1..P5,
and CRC byte `crc`. -/
def Payload.pack (status : Byte) (h t : Code20) (crc : Byte) : Payload where
  p0 := status
  p1 := h.extractLsb' 12 8
  p2 := h.extractLsb' 4 8
  p3 := h.extractLsb' 0 4 ++ t.extractLsb' 16 4
  p4 := t.extractLsb' 8 8
  p5 := t.extractLsb' 0 8
  p6 := crc

/-- The host's test encoder of R114: the codes packed, with the CRC-8 of bytes 0..5 appended as P6.
The block has no encode operation. -/
def Payload.seal (status : Byte) (h t : Code20) : Payload :=
  Payload.pack status h t (Payload.pack status h t 0x00#8).crc

end Sys2Proof.Machine
end

