-- ==== Sys2Proof/Machine/Process.lean ====
section
/-! DEFINITION. PROCESS: validate and decode the payload buffer (41_process.md R106 to R109). -/

namespace Sys2Proof.Machine

/-- The outcome of PROCESS for a payload under a variant: the busy check first, then the CRC check,
made exactly when the variant is AHT2x, then the decode (R106, R107, R108). -/
def processResult (v : SensorVariant) (p : Payload) : ProcessResult :=
  if p.busy then .timeout
  else if v = .aht2x ∧ p.crcOk = false then .badcrc
  else .ok

/-- RESULT and the two codes after PROCESS: the codes are 0 unless the outcome is OK (R106, R109). -/
def Block.recordOutcome (b : Block) : Block :=
  match processResult b.variant b.payload with
  | .ok => b.setOutcome .ok b.payload.humRaw b.payload.tempRaw
  | r => b.setOutcome r 0x00000#20 0x00000#20

/-- The block after PROCESS: CRC_ACC holds the payload CRC in every outcome (R106, 42_crc.md R127). -/
def Block.process (b : Block) : Block := b.recordOutcome.setCrcAcc b.payload.crc

/-- `cmd.process`, one atomic step (R106). -/
def execCmdProcess (s : State) : StepOutcome := completeWrite s.block.process s

end Sys2Proof.Machine
end

