-- ==== Sys2Proof/Machine/RegisterAccess.lean ====
section
/-! DEFINITION. Register reads and writes that execute no command (40_register_access.md R80 to R91):
one meaning for each row of the opcode table. -/

namespace Sys2Proof.Machine

/-! ## The payload buffer (R80, R81) -/

/-- `rdata <- x[P0]` (R80). -/
def execRdPayload0 (s : State) : StepOutcome := answerRead (s.block.payload.get 0) s

/-- `rdata <- x[P1]` (R80). -/
def execRdPayload1 (s : State) : StepOutcome := answerRead (s.block.payload.get 1) s

/-- `rdata <- x[P2]` (R80). -/
def execRdPayload2 (s : State) : StepOutcome := answerRead (s.block.payload.get 2) s

/-- `rdata <- x[P3]` (R80). -/
def execRdPayload3 (s : State) : StepOutcome := answerRead (s.block.payload.get 3) s

/-- `rdata <- x[P4]` (R80). -/
def execRdPayload4 (s : State) : StepOutcome := answerRead (s.block.payload.get 4) s

/-- `rdata <- x[P5]` (R80). -/
def execRdPayload5 (s : State) : StepOutcome := answerRead (s.block.payload.get 5) s

/-- `rdata <- x[P6]` (R80). -/
def execRdPayload6 (s : State) : StepOutcome := answerRead (s.block.payload.get 6) s

/-- `x[P0] <- D` (R81). -/
def execWrPayload0 (d : Byte) (s : State) : StepOutcome :=
  completeWrite (s.block.setPayload 0 d) s

/-- `x[P1] <- D` (R81). -/
def execWrPayload1 (d : Byte) (s : State) : StepOutcome :=
  completeWrite (s.block.setPayload 1 d) s

/-- `x[P2] <- D` (R81). -/
def execWrPayload2 (d : Byte) (s : State) : StepOutcome :=
  completeWrite (s.block.setPayload 2 d) s

/-- `x[P3] <- D` (R81). -/
def execWrPayload3 (d : Byte) (s : State) : StepOutcome :=
  completeWrite (s.block.setPayload 3 d) s

/-- `x[P4] <- D` (R81). -/
def execWrPayload4 (d : Byte) (s : State) : StepOutcome :=
  completeWrite (s.block.setPayload 4 d) s

/-- `x[P5] <- D` (R81). -/
def execWrPayload5 (d : Byte) (s : State) : StepOutcome :=
  completeWrite (s.block.setPayload 5 d) s

/-- `x[P6] <- D` (R81). -/
def execWrPayload6 (d : Byte) (s : State) : StepOutcome :=
  completeWrite (s.block.setPayload 6 d) s

/-! ## CTRL, STATUS, CMD (R82 to R86) -/

/-- `rdata <- zext_8(x[VARIANT])` (R82). -/
def execRdCtrl (s : State) : StepOutcome := answerRead (s.block.variant.bit.setWidth 8) s

/-- `x[VARIANT] <- D[0]`; the current RESULT is unchanged (R83). -/
def execWrCtrl (d : Byte) (s : State) : StepOutcome :=
  completeWrite (s.block.setVariant (variantOfData d)) s

/-- `rdata <- (x[ILLEGAL] << 3) | (valid << 2) | x[RESULT]`; reading clears nothing (R84). -/
def execRdStatus (s : State) : StepOutcome := answerRead s.block.status s

/-- `rdata <- 0x00`: CMD holds no state (R86). -/
def execRdCmd (s : State) : StepOutcome := answerRead 0x00#8 s

/-- What every write to a read-only or reserved address does: nothing (20_memory.md R44). -/
def ignoreWrite (_d : Byte) (s : State) : StepOutcome := completeWrite s.block s

/-- Nothing; in particular ILLEGAL is not cleared (R85). -/
def execWrRoStatus (d : Byte) (s : State) : StepOutcome := ignoreWrite d s

/-! ## The decoded results (R87 to R89) -/

/-- Byte 0 of HUM_RAW (R87). -/
def execRdHum0 (s : State) : StepOutcome := answerRead (codeByte0 s.block.humRaw) s

/-- Byte 1 of HUM_RAW (R87). -/
def execRdHum1 (s : State) : StepOutcome := answerRead (codeByte1 s.block.humRaw) s

/-- Byte 2 of HUM_RAW (R87). -/
def execRdHum2 (s : State) : StepOutcome := answerRead (codeByte2 s.block.humRaw) s

/-- Byte 0 of TEMP_RAW (R88). -/
def execRdTemp0 (s : State) : StepOutcome := answerRead (codeByte0 s.block.tempRaw) s

/-- Byte 1 of TEMP_RAW (R88). -/
def execRdTemp1 (s : State) : StepOutcome := answerRead (codeByte1 s.block.tempRaw) s

/-- Byte 2 of TEMP_RAW (R88). -/
def execRdTemp2 (s : State) : StepOutcome := answerRead (codeByte2 s.block.tempRaw) s

/-- Nothing: the host cannot forge a decoded result (R89). -/
def execWrRoHum0 (d : Byte) (s : State) : StepOutcome := ignoreWrite d s

/-- Nothing: the host cannot forge a decoded result (R89). -/
def execWrRoHum1 (d : Byte) (s : State) : StepOutcome := ignoreWrite d s

/-- Nothing: the host cannot forge a decoded result (R89). -/
def execWrRoHum2 (d : Byte) (s : State) : StepOutcome := ignoreWrite d s

/-- Nothing: the host cannot forge a decoded result (R89). -/
def execWrRoTemp0 (d : Byte) (s : State) : StepOutcome := ignoreWrite d s

/-- Nothing: the host cannot forge a decoded result (R89). -/
def execWrRoTemp1 (d : Byte) (s : State) : StepOutcome := ignoreWrite d s

/-- Nothing: the host cannot forge a decoded result (R89). -/
def execWrRoTemp2 (d : Byte) (s : State) : StepOutcome := ignoreWrite d s

/-! ## Reserved addresses (R90, R91) -/

/-- `rdata <- 0x00` at 0x07 (R90). -/
def execRdRsvd07 (s : State) : StepOutcome := answerRead 0x00#8 s

/-- `rdata <- 0x00` at 0x0F (R90). -/
def execRdRsvd0F (s : State) : StepOutcome := answerRead 0x00#8 s

/-- `rdata <- 0x00` at 0x13 (R90). -/
def execRdRsvd13 (s : State) : StepOutcome := answerRead 0x00#8 s

/-- `rdata <- 0x00` at 0x14..0x17 (R90). -/
def execRdRsvd14 (_a : RegAddr) (s : State) : StepOutcome := answerRead 0x00#8 s

/-- `rdata <- 0x00` at 0x18..0x1F (R90). -/
def execRdRsvd18 (_a : RegAddr) (s : State) : StepOutcome := answerRead 0x00#8 s

/-- Nothing, at 0x07; ILLEGAL is not set (R91). -/
def execWrRsvd07 (d : Byte) (s : State) : StepOutcome := ignoreWrite d s

/-- Nothing, at 0x0F; ILLEGAL is not set (R91). -/
def execWrRsvd0F (d : Byte) (s : State) : StepOutcome := ignoreWrite d s

/-- Nothing, at 0x13; ILLEGAL is not set (R91). -/
def execWrRsvd13 (d : Byte) (s : State) : StepOutcome := ignoreWrite d s

/-- Nothing, at 0x14..0x17; ILLEGAL is not set (R91). -/
def execWrRsvd14 (_a : RegAddr) (d : Byte) (s : State) : StepOutcome := ignoreWrite d s

/-- Nothing, at 0x18..0x1F; ILLEGAL is not set (R91). -/
def execWrRsvd18 (_a : RegAddr) (d : Byte) (s : State) : StepOutcome := ignoreWrite d s

end Sys2Proof.Machine
end

