-- ==== Sys2Proof/Machine/Dispatch.lean ====
section
/-! DEFINITION. From an instruction to its meaning: one arm for each row of the opcode table. -/

namespace Sys2Proof.Machine

def exec (i : Instr) (s : State) : Host.Outcome State Fault Refusal :=
  match i with
  | .rdPayload0 => Sys2Proof.Machine.execRdPayload0 s
  | .rdPayload1 => Sys2Proof.Machine.execRdPayload1 s
  | .rdPayload2 => Sys2Proof.Machine.execRdPayload2 s
  | .rdPayload3 => Sys2Proof.Machine.execRdPayload3 s
  | .rdPayload4 => Sys2Proof.Machine.execRdPayload4 s
  | .rdPayload5 => Sys2Proof.Machine.execRdPayload5 s
  | .rdPayload6 => Sys2Proof.Machine.execRdPayload6 s
  | .rdCtrl => Sys2Proof.Machine.execRdCtrl s
  | .rdStatus => Sys2Proof.Machine.execRdStatus s
  | .rdCrc => Sys2Proof.Machine.execRdCrc s
  | .rdCmd => Sys2Proof.Machine.execRdCmd s
  | .rdHum0 => Sys2Proof.Machine.execRdHum0 s
  | .rdHum1 => Sys2Proof.Machine.execRdHum1 s
  | .rdHum2 => Sys2Proof.Machine.execRdHum2 s
  | .rdTemp0 => Sys2Proof.Machine.execRdTemp0 s
  | .rdTemp1 => Sys2Proof.Machine.execRdTemp1 s
  | .rdTemp2 => Sys2Proof.Machine.execRdTemp2 s
  | .rdRsvd07 => Sys2Proof.Machine.execRdRsvd07 s
  | .rdRsvd0F => Sys2Proof.Machine.execRdRsvd0F s
  | .rdRsvd13 => Sys2Proof.Machine.execRdRsvd13 s
  | .rdRsvd14 a => Sys2Proof.Machine.execRdRsvd14 a s
  | .rdRsvd18 a => Sys2Proof.Machine.execRdRsvd18 a s
  | .wrPayload0 d => Sys2Proof.Machine.execWrPayload0 d s
  | .wrPayload1 d => Sys2Proof.Machine.execWrPayload1 d s
  | .wrPayload2 d => Sys2Proof.Machine.execWrPayload2 d s
  | .wrPayload3 d => Sys2Proof.Machine.execWrPayload3 d s
  | .wrPayload4 d => Sys2Proof.Machine.execWrPayload4 d s
  | .wrPayload5 d => Sys2Proof.Machine.execWrPayload5 d s
  | .wrPayload6 d => Sys2Proof.Machine.execWrPayload6 d s
  | .wrCtrl d => Sys2Proof.Machine.execWrCtrl d s
  | .wrRoStatus d => Sys2Proof.Machine.execWrRoStatus d s
  | .wrCrc d => Sys2Proof.Machine.execWrCrc d s
  | .cmdNop => Sys2Proof.Machine.execCmdNop s
  | .cmdProcess => Sys2Proof.Machine.execCmdProcess s
  | .cmdCrcInit => Sys2Proof.Machine.execCmdCrcInit s
  | .cmdClear => Sys2Proof.Machine.execCmdClear s
  | .cmdRsvd04 d => Sys2Proof.Machine.execCmdRsvd04 d s
  | .cmdRsvd08 d => Sys2Proof.Machine.execCmdRsvd08 d s
  | .cmdRsvd10 d => Sys2Proof.Machine.execCmdRsvd10 d s
  | .cmdRsvd20 d => Sys2Proof.Machine.execCmdRsvd20 d s
  | .cmdRsvd40 d => Sys2Proof.Machine.execCmdRsvd40 d s
  | .cmdRsvd80 d => Sys2Proof.Machine.execCmdRsvd80 d s
  | .wrRoHum0 d => Sys2Proof.Machine.execWrRoHum0 d s
  | .wrRoHum1 d => Sys2Proof.Machine.execWrRoHum1 d s
  | .wrRoHum2 d => Sys2Proof.Machine.execWrRoHum2 d s
  | .wrRoTemp0 d => Sys2Proof.Machine.execWrRoTemp0 d s
  | .wrRoTemp1 d => Sys2Proof.Machine.execWrRoTemp1 d s
  | .wrRoTemp2 d => Sys2Proof.Machine.execWrRoTemp2 d s
  | .wrRsvd07 d => Sys2Proof.Machine.execWrRsvd07 d s
  | .wrRsvd0F d => Sys2Proof.Machine.execWrRsvd0F d s
  | .wrRsvd13 d => Sys2Proof.Machine.execWrRsvd13 d s
  | .wrRsvd14 a d => Sys2Proof.Machine.execWrRsvd14 a d s
  | .wrRsvd18 a d => Sys2Proof.Machine.execWrRsvd18 a d s

end Sys2Proof.Machine
end

