-- ==== Sys2Proof/Machine/Cycle.lean ====
section
/-! DEFINITION. One clock cycle of the block, by what the host drives on the ports (20_memory.md R40,
R41, 70_reset_and_hazards.md R180). -/

namespace Sys2Proof.Machine

/-- With rst_n = 0 the cycle is reset, whatever sel is; with sel = 0 nothing is presented; otherwise
the word on the pins is decoded and its instruction runs. -/
def busCycle (c : HostCycle) (s : State) : StepOutcome :=
  if c.rstN then
    if c.sel then exec (decode c.word) s else idleCycle s
  else resetBlock s

/-- One step: take the host's next cycle and run it. -/
def nextCycle (s : State) : StepOutcome := busCycle s.takeCycle.1 s.takeCycle.2

end Sys2Proof.Machine
end

