-- ==== Sys2Proof/Machine/Step.lean ====
section
/-! DEFINITION. The step: one clock cycle. In the model each transaction is one step (20_memory.md
R41) and reset is one step (70_reset_and_hazards.md R180). -/

namespace Sys2Proof.Machine

/-- One clock cycle of the machine. -/
def step (s : State) : Host.Outcome State Fault Refusal := nextCycle s

/-- `s` with the instruction in those table bits as the next transaction the host presents. The block
fetches nothing (10_state.md R23): its instruction stream is the host's (log 5). -/
def State.withFetchWord (s : State) (nbits w : Nat) : State :=
  s.present (HostCycle.ofTableBits nbits w)

end Sys2Proof.Machine
end

