-- ==== Sys2Proof/Machine/Assembler.lean ====
section
/-! DEFINITION. The assembler text of 30_encoding.md R69 and the pseudo-instructions of R70: one
statement a line, `;` starts a comment, mnemonics and register names case-insensitive, numbers decimal
or 0x-hex. Log 12 names what R69 leaves open about the text. -/

namespace Sys2Proof.Machine

/-- A pseudo-instruction (R70). -/
inductive Pseudo where
  | nop
  | process
  | crcinit
  | clear
  | crcfeed (b : Byte)
  | variant (v : SensorVariant)
  | ldpay (p : Payload)
  | rdhum
  | rdtemp
  deriving DecidableEq, Repr

/-- One statement of the assembler. -/
inductive AsmStatement where
  | rd (a : RegAddr)
  | wr (a : RegAddr) (d : Byte)
  | pseudo (p : Pseudo)
  deriving DecidableEq, Repr

/-- Why a line is no statement. -/
inductive AsmError where
  /-- The first word is neither `rd`, `wr` nor a pseudo-instruction. -/
  | unknownMnemonic
  /-- The operands are not of the mnemonic's form. -/
  | badOperands
  /-- A register operand is neither a name nor a number. -/
  | unknownRegister
  /-- A numeric address is over 31. -/
  | addressRange
  /-- An immediate is no number. -/
  | badNumber
  /-- An immediate is over 255: an assembly error (R69). -/
  | immediateRange
  /-- The operand of `variant` is neither `aht1x` nor `aht2x`. -/
  | unknownVariant
  deriving DecidableEq, Repr

/-! ## Words of a statement (R69, R70) -/

/-- The expansion of a pseudo-instruction (R70). -/
def Pseudo.expand : Pseudo → List Instr
  | .nop => [.cmdNop]
  | .process => [.cmdProcess]
  | .crcinit => [.cmdCrcInit]
  | .clear => [.cmdClear]
  | .crcfeed b => [.wrCrc b]
  | .variant v => [.wrCtrl (v.bit.setWidth 8)]
  | .ldpay p =>
    [.wrPayload0 p.p0, .wrPayload1 p.p1, .wrPayload2 p.p2, .wrPayload3 p.p3, .wrPayload4 p.p4,
      .wrPayload5 p.p5, .wrPayload6 p.p6]
  | .rdhum => [.rdHum0, .rdHum1, .rdHum2]
  | .rdtemp => [.rdTemp0, .rdTemp1, .rdTemp2]

/-- The transaction words of a statement: `rd` writes D = 0 (R69). -/
def AsmStatement.words : AsmStatement → List TWord
  | .rd a => [mkWord false a 0x00#8]
  | .wr a d => [mkWord true a d]
  | .pseudo p => p.expand.map encode

/-! ## Text -/

/-- A token of a line. -/
inductive AsmToken where
  | word (cs : List Char)
  | comma
  deriving DecidableEq, Repr

/-- The line without its comment. -/
def stripComment : List Char → List Char
  | [] => []
  | c :: cs => if c = ';' then [] else c :: stripComment cs

/-- The token list `rest` with the word `acc` before it, if there is one. -/
def flushWord (acc : List Char) (rest : List AsmToken) : List AsmToken :=
  if acc = [] then rest else .word acc :: rest

/-- The tokens of a line, letters in lower case; `acc` is the word read so far. Mnemonics and register
names are case-insensitive (R69); that the operand of `variant` is so too is the model's DESIGN CHOICE
(log 12). -/
def lexLine (acc : List Char) : List Char → List AsmToken
  | [] => flushWord acc []
  | c :: cs =>
    if c = ',' then flushWord acc (.comma :: lexLine [] cs)
    else if c.isWhitespace then flushWord acc (lexLine [] cs)
    else lexLine (acc ++ [c.toLower]) cs

/-- The value of a lower-case digit in `base`. -/
def digitValue (base : Nat) (c : Char) : Option Nat :=
  let v :=
    if '0' ≤ c ∧ c ≤ '9' then c.toNat - '0'.toNat
    else if 'a' ≤ c ∧ c ≤ 'f' then c.toNat - 'a'.toNat + 10
    else base
  if v < base then some v else none

/-- The number whose digits follow the value `acc`. -/
def readDigits (base acc : Nat) : List Char → Option Nat
  | [] => some acc
  | c :: cs =>
    match digitValue base c with
    | some v => readDigits base (acc * base + v) cs
    | none => none

/-- A number, decimal or 0x-hex. -/
def readNumber : List Char → Option Nat
  | '0' :: 'x' :: c :: cs => readDigits 16 0 (c :: cs)
  | c :: cs => readDigits 10 0 (c :: cs)
  | [] => none

/-- The register names of R69 and their addresses (20_memory.md R43), in lower case. -/
def registerNames : List (String × RegAddr) :=
  [("payload0", 0x00#5), ("payload1", 0x01#5), ("payload2", 0x02#5), ("payload3", 0x03#5),
   ("payload4", 0x04#5), ("payload5", 0x05#5), ("payload6", 0x06#5), ("ctrl", 0x08#5)] ++
  [("status", 0x09#5), ("crc", 0x0A#5), ("cmd", 0x0B#5), ("hum0", 0x0C#5), ("hum1", 0x0D#5),
   ("hum2", 0x0E#5), ("temp0", 0x10#5), ("temp1", 0x11#5), ("temp2", 0x12#5)]

/-- A `<reg>` operand: a name, or a numeric address 0..31. -/
def readRegister (cs : List Char) : Except AsmError RegAddr :=
  match registerNames.find? (fun r => r.1.toList == cs) with
  | some r => .ok r.2
  | none =>
    match readNumber cs with
    | none => .error .unknownRegister
    | some n => if n < 32 then .ok (BitVec.ofNat 5 n) else .error .addressRange

/-- An `<imm8>` operand: 0..255. -/
def readImm8 (cs : List Char) : Except AsmError Byte :=
  match readNumber cs with
  | none => .error .badNumber
  | some n => if n < 256 then .ok (BitVec.ofNat 8 n) else .error .immediateRange

/-- The operands, one word each with a comma between them. -/
def readOperands : List AsmToken → Option (List (List Char))
  | [] => some []
  | [.word a] => some [a]
  | .word a :: .comma :: .word b :: rest =>
    match readOperands (.word b :: rest) with
    | some ops => some (a :: ops)
    | none => none
  | _ => none

/-- The immediates, in order. -/
def readImms : List (List Char) → Except AsmError (List Byte)
  | [] => .ok []
  | a :: rest =>
    match readImm8 a with
    | .error e => .error e
    | .ok b =>
      match readImms rest with
      | .error e => .error e
      | .ok bs => .ok (b :: bs)

/-- A mnemonic without operands. -/
def bareStatement (m : List Char) : Option AsmStatement :=
  if m = "nop".toList then some (.pseudo .nop)
  else if m = "process".toList then some (.pseudo .process)
  else if m = "crcinit".toList then some (.pseudo .crcinit)
  else if m = "clear".toList then some (.pseudo .clear)
  else if m = "rdhum".toList then some (.pseudo .rdhum)
  else if m = "rdtemp".toList then some (.pseudo .rdtemp)
  else none

/-- `variant aht1x` or `variant aht2x` (R70), in either letter case (DESIGN CHOICE, log 12). -/
def readVariant (cs : List Char) : Except AsmError SensorVariant :=
  if cs = "aht1x".toList then .ok .aht1x
  else if cs = "aht2x".toList then .ok .aht2x
  else .error .unknownVariant

/-- `ldpay` and its seven immediates (R70). -/
def readLdpay (ops : List (List Char)) : Except AsmError AsmStatement :=
  match readImms ops with
  | .error e => .error e
  | .ok [b0, b1, b2, b3, b4, b5, b6] => .ok (.pseudo (.ldpay ⟨b0, b1, b2, b3, b4, b5, b6⟩))
  | .ok _ => .error .badOperands

/-- A mnemonic with operands. -/
def operandStatement (m : List Char) (ops : List (List Char)) : Except AsmError AsmStatement :=
  if m = "rd".toList then
    match ops with
    | [r] => (readRegister r).map .rd
    | _ => .error .badOperands
  else if m = "wr".toList then
    match ops with
    | [r, i] =>
      match readRegister r with
      | .error e => .error e
      | .ok a => (readImm8 i).map (.wr a)
    | _ => .error .badOperands
  else if m = "crcfeed".toList then
    match ops with
    | [b] => (readImm8 b).map fun v => .pseudo (.crcfeed v)
    | _ => .error .badOperands
  else if m = "variant".toList then
    match ops with
    | [v] => (readVariant v).map fun x => .pseudo (.variant x)
    | _ => .error .badOperands
  else if m = "ldpay".toList then readLdpay ops
  else .error .unknownMnemonic

/-- The statement of a line's tokens; a line without tokens has none. -/
def readStatement : List AsmToken → Except AsmError (Option AsmStatement)
  | [] => .ok none
  | .comma :: _ => .error .unknownMnemonic
  | .word m :: rest =>
    match bareStatement m with
    | some st => if rest = [] then .ok (some st) else .error .badOperands
    | none =>
      match readOperands rest with
      | none => .error .badOperands
      | some ops => (operandStatement m ops).map some

/-- The transaction words of one line of text (R69, R70). -/
def assembleLine (line : String) : Except AsmError (List TWord) :=
  match readStatement (lexLine [] (stripComment line.toList)) with
  | .error e => .error e
  | .ok none => .ok []
  | .ok (some st) => .ok st.words

end Sys2Proof.Machine
end

