-- ==== Sys2Proof/Config.lean ====
section
/-! DEFINITION. What an implementation fixes and the spec leaves open: one parameter, the host's
conversion of a code to binary32 (41_process.md R113, 92_eei_decisions.md D18). -/

namespace Sys2Proof

/-- The type of `ENG_F32`: from a 20-bit code to the humidity and the temperature the host
computes, each as a binary32 bit pattern (R113). -/
abbrev EngF32 := Code20 → Float32Bits × Float32Bits

/-- `ENG_F32`, OPEN (R113): the host's conversion. No body, so nothing can be proved of its values;
it depends on the code alone by its type. DESIGN CHOICE of form, log 7 (safe). -/
opaque Config.engF32 : EngF32

end Sys2Proof
end

