-- ==== Sys2Proof/Machine/HostReference.lean ====
section
/-! DEFINITION. The reference functions the spec gives for the host's side: engineering units in exact
rational arithmetic (41_process.md R110, R111), the open binary32 conversion (R113), the encoder's
targets (R114) and the driver's read() outcome (60_exceptions.md R152). The block computes none of
them. -/

namespace Sys2Proof.Machine

/-! ## Engineering units -/

/-- `humidity(h) = h / 1048576 * 100`, in %RH (R110). -/
def humidity (h : Code20) : Rat := (h.toNat : Rat) / 1048576 * 100

/-- `temperature(t) = t / 1048576 * 200 - 50`, in °C (R111). -/
def temperature (t : Code20) : Rat := (t.toNat : Rat) / 1048576 * 200 - 50

/-! ## The binary32 conversion, a parameter (R113) -/

/-- The number a binary32 bit pattern stands for, none for an infinity or a NaN. PRESUMED: IEEE 754,
which the spec names and does not restate (log 8). -/
def binary32Value (b : Float32Bits) : Option Rat :=
  let e := (b.extractLsb' 23 8).toNat
  let f := (b.extractLsb' 0 23).toNat
  let m : Nat := if e = 0 then f * 2 else (2 ^ 23 + f) * 2 ^ e
  let v : Rat := (m : Rat) / (2 : Rat) ^ 150
  if e = 255 then none else some (if b.getLsbD 31 then -v else v)

/-- A binary32 bit pattern whose value is within 0.01 of `x`. -/
def Within001 (b : Float32Bits) (x : Rat) : Prop :=
  ∃ v, binary32Value b = some v ∧ |v - x| ≤ 1 / 100

/-- The only property of `ENG_F32` a claim may assume (R113, 93_implementation_defined.md I1), at one
code: each of its two values is within 0.01 of the exact one. -/
def AccurateAt (conv : EngF32) (c : Code20) : Prop :=
  Within001 (conv c).1 (humidity c) ∧ Within001 (conv c).2 (temperature c)

/-! ## The driver's outcome (R152) -/

/-- What the driver's read() returns. -/
inductive DriverReport where
  | measurement (hum temp : Float32Bits)
  | timeout
  | invalidChecksum
  deriving DecidableEq, Repr

/-- The read() result a block's state stands for under a conversion; none before any PROCESS, for
which R152 has no entry (log 13). -/
def driverReport (conv : EngF32) (b : Block) : Option DriverReport :=
  match b.result with
  | .none => none
  | .ok => some (.measurement (conv b.humRaw).1 (conv b.tempRaw).2)
  | .timeout => some .timeout
  | .badcrc => some .invalidChecksum

/-- The same with the open parameter itself. -/
def driverRead (b : Block) : Option DriverReport := driverReport Config.engF32 b

/-! ## The test encoder's targets (R114) -/

/-- `H * 2^20 / 100`, before rounding. -/
def humTarget (H : Rat) : Rat := H * 1048576 / 100

/-- `(T + 50) * 2^20 / 200`, before rounding. -/
def tempTarget (T : Rat) : Rat := (T + 50) * 1048576 / 200

/-- `n` is a nearest integer of `x`. R114 says `round` and not how ties go, so nothing here does
(log 11). -/
def IsNearest (x : Rat) (n : Int) : Prop := |x - n| ≤ 1 / 2

/-- A rounded code, clamped to 0xFFFFF (R114). -/
def clampCode (n : Int) : Code20 := BitVec.ofNat 20 (min n 0xFFFFF).toNat

end Sys2Proof.Machine
end

