-- ==== Sys2Proof/Machine/RegisterMap.lean ====
section
/-! DEFINITION. The block seen from its ports: the register map of 20_memory.md R43 and the command
table of 30_encoding.md R65, written from those tables and not from the instructions' own rules. The
two views of the block must agree; the statements compare them. -/

namespace Sys2Proof.Machine

/-- The column "read returns" of R43. -/
def Block.readReg (b : Block) (a : RegAddr) : Byte :=
  match a.toNat with
  | 0x00 => b.payload.p0
  | 0x01 => b.payload.p1
  | 0x02 => b.payload.p2
  | 0x03 => b.payload.p3
  | 0x04 => b.payload.p4
  | 0x05 => b.payload.p5
  | 0x06 => b.payload.p6
  | 0x08 => 0b0000000#7 ++ b.variant.bit
  | 0x09 => 0b0000#4 ++ BitVec.ofBool b.illegal ++ BitVec.ofBool (b.result == .ok) ++ b.result.code
  | 0x0A => b.crcAcc
  | 0x0C => BitVec.ofNat 8 b.humRaw.toNat
  | 0x0D => BitVec.ofNat 8 (b.humRaw.toNat >>> 8)
  | 0x0E => 0b0000#4 ++ BitVec.ofNat 4 (b.humRaw.toNat >>> 16)
  | 0x10 => BitVec.ofNat 8 b.tempRaw.toNat
  | 0x11 => BitVec.ofNat 8 (b.tempRaw.toNat >>> 8)
  | 0x12 => 0b0000#4 ++ BitVec.ofNat 4 (b.tempRaw.toNat >>> 16)
  | _ => 0x00#8

/-- PROCESS as the pseudocode of 41_process.md R106 runs it, assignment by assignment. -/
def Block.processInOrder (b : Block) : Block :=
  let c := crc8 crcInit [b.payload.p0, b.payload.p1, b.payload.p2, b.payload.p3, b.payload.p4, b.payload.p5]
  let b := { b with crcAcc := c }
  if b.payload.p0.getLsbD 6 then { b with result := .timeout, humRaw := 0, tempRaw := 0 }
  else if b.variant = .aht2x ∧ c ≠ b.payload.p6 then
    { b with result := .badcrc, humRaw := 0, tempRaw := 0 }
  else
    { b with
      result := .ok
      humRaw := BitVec.ofNat 20
        (b.payload.p1.toNat * 4096 + b.payload.p2.toNat * 16 + b.payload.p3.toNat / 16)
      tempRaw := BitVec.ofNat 20
        (b.payload.p3.toNat % 16 * 65536 + b.payload.p4.toNat * 256 + b.payload.p5.toNat) }

/-- The command table of 30_encoding.md R65. -/
def Block.command (b : Block) (d : Byte) : Block :=
  match d.toNat with
  | 0x00 => b
  | 0x01 => b.processInOrder
  | 0x02 => { b with crcAcc := 0xFF#8 }
  | 0x03 => { b with result := .none, humRaw := 0, tempRaw := 0, illegal := false }
  | _ => { b with illegal := true }

/-- The column "write does" of R43. -/
def Block.writeReg (b : Block) (a : RegAddr) (d : Byte) : Block :=
  match a.toNat with
  | 0x00 => { b with payload.p0 := d }
  | 0x01 => { b with payload.p1 := d }
  | 0x02 => { b with payload.p2 := d }
  | 0x03 => { b with payload.p3 := d }
  | 0x04 => { b with payload.p4 := d }
  | 0x05 => { b with payload.p5 := d }
  | 0x06 => { b with payload.p6 := d }
  | 0x08 => { b with variant := if d &&& 1 = 1 then .aht2x else .aht1x }
  | 0x0A => { b with crcAcc := crc8Update b.crcAcc d }
  | 0x0B => b.command d
  | _ => b

/-- What one cycle does to the block (R40, R41, R180). -/
def HostCycle.effect (c : HostCycle) (b : Block) : Block :=
  if c.rstN then if c.sel && c.we then b.writeReg c.addr c.wdata else b else Block.reset

/-- What rdata carries in one cycle, from the state before its edge: 0x00 unless it is a read (R40,
R41, R180). -/
def HostCycle.drives (c : HostCycle) (b : Block) : Byte :=
  if c.isTransaction && !c.we then b.readReg c.addr else 0x00#8

/-- The rdata values of the reads in one cycle: one for a read transaction, none otherwise
(70_reset_and_hazards.md R187). -/
def HostCycle.reads (c : HostCycle) (b : Block) : List Byte :=
  if c.isTransaction && !c.we then [b.readReg c.addr] else []

/-- The machine after one cycle, as the ports and the register map give it. -/
def State.afterCycle (s : State) (c : HostCycle) : State :=
  { s with
    block := c.effect s.block
    rdata := c.drives s.block
    observed := s.observed ++ c.reads s.block }

end Sys2Proof.Machine
end

