-- ==== Sys2Proof/Safety.lean ====
section
/-! DEFINITION. What the claims are stated in: runs, the block's invariant, and the kinds of cycle the
spec's rules single out. -/

namespace Sys2Proof.Machine

/-! ## Runs (70_reset_and_hazards.md R187) -/

/-- The run in which the host drives the cycles `cs` from the machine `s`, one step for each. -/
def runCycles (cs : List HostCycle) (s : State) : StepOutcome :=
  Host.Core.run Sys2Proof.core cs.length { s with pending := cs }

/-! ## The block's invariant (10_state.md R36) -/

/-- The codes are 0 unless the last outcome is OK. -/
abbrev Block.Consistent (b : Block) : Prop := b.result ≠ .ok → b.humRaw = 0 ∧ b.tempRaw = 0

/-! ## Kinds of cycle -/

/-- Reset is asserted. -/
def HostCycle.isReset (c : HostCycle) : Bool := !c.rstN

/-- The cycle presents a write of `d` to CMD (30_encoding.md R65). -/
def HostCycle.isCommand (c : HostCycle) (d : Byte) : Bool :=
  c.isTransaction && c.we && c.addr == 0x0B#5 && c.wdata == d

/-- The cycle is a PROCESS (41_process.md R106). -/
def HostCycle.isProcess (c : HostCycle) : Bool := c.isCommand 0x01#8

/-- The cycle can change the results: PROCESS, CLEAR or reset (10_state.md R29, R33). -/
def HostCycle.setsResults (c : HostCycle) : Bool :=
  c.isReset || c.isProcess || c.isCommand 0x03#8

/-- The cycle can change CRC_ACC: a feed, CRC_INIT, PROCESS or reset (10_state.md R31). -/
def HostCycle.setsCrc (c : HostCycle) : Bool :=
  c.isReset || c.isProcess || c.isCommand 0x02#8 || (c.isTransaction && c.we && c.addr == 0x0A#5)

/-- The cycle can change the payload: a write of a payload byte, or reset (10_state.md R24). -/
def HostCycle.setsPayload (c : HostCycle) : Bool :=
  c.isReset || (c.isTransaction && c.we && decide (c.addr.toNat < 7))

/-- The cycle writes a reserved command code (43_control_commands.md R142). -/
def HostCycle.isReservedCommand (c : HostCycle) : Bool :=
  c.isTransaction && c.we && c.addr == 0x0B#5 && decide (4 ≤ c.wdata.toNat)

/-- The cycle clears ILLEGAL: CLEAR or reset (10_state.md R30). -/
def HostCycle.clearsIllegal (c : HostCycle) : Bool := c.isReset || c.isCommand 0x03#8

/-- The cycle can change VARIANT: a write of CTRL, or reset (10_state.md R26). -/
def HostCycle.setsVariant (c : HostCycle) : Bool :=
  c.isReset || (c.isTransaction && c.we && c.addr == 0x08#5)

/-! ## Views of the block -/

/-- The results a PROCESS leaves: RESULT and both codes. -/
def Block.results (b : Block) : ProcessResult × Code20 × Code20 := (b.result, b.humRaw, b.tempRaw)

/-- A code put together from its three register bytes: `{HUM2[3:0], HUM1, HUM0}` (20_memory.md R45). -/
def joinCode (b0 b1 b2 : Byte) : Code20 := b2.extractLsb' 0 4 ++ b1 ++ b0

/-- The cycle presents a read. -/
def HostCycle.isRead (c : HostCycle) : Bool := c.isTransaction && !c.we

end Sys2Proof.Machine
end

