-- ==== Sys2Proof/Certificates/Slice0/Obligations.lean ====
section
/-! DEFINITION. The statements about the model, for the provers. Each docstring names the rule of spec/
it formalises. In a statement about one row of the opcode table, the first clause says which words
decode to it and the second what it does, everything it leaves alone included. -/

open Sys2Proof Sys2Proof.Machine

/-! ## Encoding (30_encoding.md) -/

/-- Decoding the encoding of a well-formed instruction gives it back, with every operand. -/
def Obligations.DecodeEncodeRoundTrip : Prop :=
  ∀ i : Instr, i.wellFormed = true → decode (encode i) = i

/-- Encoding what a word decodes to gives the word back, with D cleared in a read (R64, R69). -/
def Obligations.EncodeDecodeGivesTheWordBack : Prop :=
  ∀ w : TWord, encode (decode w) = if w.getLsbD 13 then w else w &&& 0x3F00#14

/-- R64: D is not decoded in a read, the assembler writes D = 0 there, and nothing else is ignored. -/
def Obligations.ReadDataIsTheOnlyDontCare : Prop :=
  (∀ w w' : TWord, decode w = decode w' ↔
    w = w' ∨ (w.getLsbD 13 = false ∧ w &&& 0x3F00#14 = w' &&& 0x3F00#14)) ∧
  (∀ a : RegAddr, ∃ w, (AsmStatement.rd a).words = [w] ∧ w &&& 0x00FF#14 = 0)

/-- Every word decodes to a well-formed instruction, and exactly the 14-bit numbers are words; a wider
number is rejected by name (log 5, the model's choice). -/
def Obligations.DecodingIsTotalAndWellFormed : Prop :=
  (∀ w : TWord, (decode w).wellFormed = true) ∧
  (∀ n : Nat, n < 2 ^ 14 → ∃ i, decodeBits n = .ok i ∧ i = decode (BitVec.ofNat 14 n)) ∧
  (∀ n : Nat, 2 ^ 14 ≤ n → decodeBits n = .error .widerThanAWord)

/-- R71: the 53 rows are pairwise disjoint and cover every word, and the row that covers a word is the
row of the instruction it decodes to. -/
def Obligations.OpcodeTablePartitionsTheWords : Prop :=
  opcodeTable.length = 53 ∧
  ∀ w : TWord, opcodeTable.filter (fun r => r.covers w) = [(decode w).tableRow]

/-- R61: `word = (W << 13) | (A << 8) | D`, its three fields, and the rule's three examples. -/
def Obligations.TransactionWordLayout : Prop :=
  (∀ (wr : Bool) (a : RegAddr) (d : Byte),
    (mkWord wr a d).toNat = (if wr then 1 else 0) * 2 ^ 13 + a.toNat * 2 ^ 8 + d.toNat ∧
    wordIsWrite (mkWord wr a d) = wr ∧ wordAddr (mkWord wr a d) = a ∧
    wordData (mkWord wr a d) = d) ∧
  encode (.wrPayload3 0x5A#8) = 0x235A#14 ∧ encode .rdStatus = 0x0900#14 ∧
  encode .cmdProcess = 0x2B01#14

/-- Words the spec writes out decode to the instructions it says they are. -/
def Obligations.WordsOfTheSpecDecode : Prop :=
  decode 0x235A#14 = .wrPayload3 0x5A#8 ∧ decode 0x0900#14 = .rdStatus ∧
  decode 0x2B01#14 = .cmdProcess ∧ decode 0x2803#14 = .wrCtrl 0x03#8 ∧
  decode 0x0A00#14 = .rdCrc ∧ decode 0x2A31#14 = .wrCrc 0x31#8 ∧
  decode 0x2CFF#14 = .wrRoHum0 0xFF#8 ∧ decode 0x2BAC#14 = .cmdRsvd80 0xAC#8 ∧
  decode 0x1F00#14 = .rdRsvd18 0x1F#5 ∧ decode 0x27AA#14 = .wrRsvd07 0xAA#8 ∧
  decode 0x0E00#14 = .rdHum2 ∧ decode 0x1200#14 = .rdTemp2

/-- R70: the words of every pseudo-instruction. -/
def Obligations.PseudoExpansions : Prop :=
  (AsmStatement.pseudo .nop).words = [0x2B00#14] ∧
  (AsmStatement.pseudo .process).words = [0x2B01#14] ∧
  (AsmStatement.pseudo .crcinit).words = [0x2B02#14] ∧
  (AsmStatement.pseudo .clear).words = [0x2B03#14] ∧
  (∀ b : Byte, (AsmStatement.pseudo (.crcfeed b)).words = [0x2A00#14 ||| b.setWidth 14]) ∧
  (AsmStatement.pseudo (.variant .aht1x)).words = [0x2800#14] ∧
  (AsmStatement.pseudo (.variant .aht2x)).words = [0x2801#14] ∧
  (∀ p : Payload, (AsmStatement.pseudo (.ldpay p)).words =
    [0x2000#14 ||| p.p0.setWidth 14, 0x2100#14 ||| p.p1.setWidth 14, 0x2200#14 ||| p.p2.setWidth 14,
     0x2300#14 ||| p.p3.setWidth 14, 0x2400#14 ||| p.p4.setWidth 14, 0x2500#14 ||| p.p5.setWidth 14,
     0x2600#14 ||| p.p6.setWidth 14]) ∧
  (AsmStatement.pseudo .rdhum).words = [0x0C00#14, 0x0D00#14, 0x0E00#14] ∧
  (AsmStatement.pseudo .rdtemp).words = [0x1000#14, 0x1100#14, 0x1200#14]

/-- Lines of assembler text become the words R69 gives them, and an immediate over 255 is an error. That
a numeric address over 31 is an error, and what the errors are named, is the model's choice (log 12). -/
def Obligations.AssemblerLines : Prop :=
  assembleLine "wr PAYLOAD3, 0x5A" = .ok [0x235A#14] ∧
  assembleLine "rd Status ; poll" = .ok [0x0900#14] ∧
  assembleLine "RD 0x1F" = .ok [0x1F00#14] ∧
  assembleLine "wr CMD, 172" = .ok [0x2BAC#14] ∧
  assembleLine "variant aht1x" = .ok [0x2800#14] ∧
  assembleLine "wr CMD, 256" = .error .immediateRange ∧
  assembleLine "rd 32" = .error .addressRange

/-! ## The step (20_memory.md R40, R41, 70_reset_and_hazards.md R180) -/

/-- When the host's next cycle presents a transaction, the step is exec of the decoded word on the pins,
with that cycle taken from the host's stream. The stream is held in `pending` (log 1, the model's
choice). -/
def Obligations.StepRunsTheDecodedInstruction : Prop :=
  ∀ (s : State) (c : HostCycle) (rest : List HostCycle),
    s.pending = c :: rest → c.rstN = true → c.sel = true →
      step s = exec (decode (mkWord c.we c.addr c.wdata)) { s with pending := rest }

/-- A cycle with rst_n = 0 sets every state element to its reset value whatever the other pins carry,
and rdata to 0x00 (70_reset_and_hazards.md section 1). What the host has observed stays (log 2). -/
def Obligations.ResetCycleSetsTheResetState : Prop :=
  ∀ (s : State) (c : HostCycle) (rest : List HostCycle),
    s.pending = c :: rest → c.rstN = false →
      step s = .next
        { block := ⟨⟨0, 0, 0, 0, 0, 0, 0⟩, .aht2x, 0xFF#8, .none, false, 0, 0⟩
          rdata := 0x00#8, observed := s.observed, pending := rest }

/-- A cycle with no transaction changes nothing but rdata, which is 0x00 (20_memory.md section 1); when
the host's stream is at its end the step is such a cycle (log 3, the model's choice). -/
def Obligations.IdleCyclesKeepTheBlock : Prop :=
  ∀ s : State,
    (∀ (c : HostCycle) (rest : List HostCycle),
      s.pending = c :: rest → c.rstN = true → c.sel = false →
        step s = .next { s with rdata := 0x00#8, pending := rest }) ∧
    (s.pending = [] → step s = .next { s with rdata := 0x00#8 })

/-- Nothing stops the block (60_exceptions.md section 1, 30_encoding.md section 3): every step answers a
next state, with one cycle taken from the host's stream and at most one byte more observed. -/
def Obligations.EveryStepContinues : Prop :=
  ∀ s : State, ∃ t : State, step s = .next t ∧ t.pending = s.pending.tail ∧
    (t.observed = s.observed ∨ t.observed = s.observed ++ [t.rdata])

/-- R41, R43: a cycle that presents a transaction does to the block, to rdata and to what the host has
observed what the register map says for its address, in one step. -/
def Obligations.TransactionsFollowTheRegisterMap : Prop :=
  ∀ (s : State) (c : HostCycle) (rest : List HostCycle),
    s.pending = c :: rest → c.rstN = true → c.sel = true →
      (c.we = false → step s = .next
        { s with
          rdata := s.block.readReg c.addr
          observed := s.observed ++ [s.block.readReg c.addr]
          pending := rest }) ∧
      (c.we = true → step s = .next
        { s with block := s.block.writeReg c.addr c.wdata, rdata := 0x00#8, pending := rest })

/-- Every well-formed instruction completes, in the state the register map gives for its address and
data: exec, written from the instructions' own rules, agrees with 20_memory.md R43. -/
def Obligations.ExecAgreesWithTheRegisterMap : Prop :=
  ∀ (i : Instr) (s : State), i.wellFormed = true →
    exec i s = .next (s.afterCycle ⟨true, true, i.isWrite, i.addr, i.data⟩)

/-- The machine after any run of host cycles is the left fold of the effects the register map gives them
(20_memory.md section 5), the observed rdata values included. -/
def Obligations.RunsAreTheFoldOfTheirCycles : Prop :=
  ∀ (cs : List HostCycle) (s : State),
    runCycles cs s = .next (cs.foldl State.afterCycle { s with pending := [] })

/-! ## State (10_state.md) -/

/-- R35: the reset value of every state element, and what each register address reads after reset. -/
def Obligations.ResetValues : Prop :=
  (State.reset.block.payload = ⟨0x00#8, 0x00#8, 0x00#8, 0x00#8, 0x00#8, 0x00#8, 0x00#8⟩ ∧
    State.reset.block.variant = .aht2x ∧ State.reset.block.crcAcc = 0xFF#8 ∧
    State.reset.block.result = .none ∧ State.reset.block.illegal = false ∧
    State.reset.block.humRaw = 0x00000#20 ∧ State.reset.block.tempRaw = 0x00000#20) ∧
  ∀ a : RegAddr, State.reset.block.readReg a =
    if a = 0x08#5 then 0x01#8 else if a = 0x0A#5 then 0xFF#8 else 0x00#8

/-- The first half of R36 is an invariant of every step: the codes are 0 unless the outcome is OK. -/
def Obligations.EveryStepKeepsConsistency : Prop :=
  ∀ s t : State, s.block.Consistent → step s = .next t → t.block.Consistent

/-- It holds at reset. -/
def Obligations.ResetIsConsistent : Prop := State.reset.block.Consistent

/-- R36, whole: after any run of host cycles from reset, the codes are 0 unless RESULT is OK, and when it
is OK they are the fields of the payload as it stood at the last PROCESS. -/
def Obligations.ResultsDescribeTheLastProcess : Prop :=
  ∀ cs : List HostCycle, ∃ t : State, runCycles cs State.reset = .next t ∧
    (t.block.result ≠ .ok → t.block.humRaw = 0 ∧ t.block.tempRaw = 0) ∧
    (t.block.result = .ok →
      ∃ (before after : List HostCycle) (c : HostCycle) (u : State),
        cs = before ++ c :: after ∧ c.isProcess = true ∧
        (∀ x ∈ after, x.setsResults = false) ∧
        runCycles before State.reset = .next u ∧
        t.block.humRaw = u.block.payload.humRaw ∧ t.block.tempRaw = u.block.payload.tempRaw)

/-- RESULT, HUM_RAW and TEMP_RAW are changed by no cycle but PROCESS, CLEAR and reset (10_state.md
sections 5 and 8), however many other cycles the host drives. -/
def Obligations.ResultsAreSnapshots : Prop :=
  ∀ (cs : List HostCycle) (s : State), (∀ c ∈ cs, c.setsResults = false) →
    ∃ t : State, runCycles cs s = .next t ∧ t.block.results = s.block.results

/-- R30: ILLEGAL is set by a reserved command code, cleared by CLEAR and reset, and kept by every other
cycle. -/
def Obligations.IllegalIsSticky : Prop :=
  ∀ (s t : State) (c : HostCycle) (rest : List HostCycle),
    s.pending = c :: rest → step s = .next t →
      t.block.illegal = (c.isReservedCommand || (s.block.illegal && !c.clearsIllegal))

/-- R31: what every cycle leaves in CRC_ACC, and where it is read. -/
def Obligations.CrcAccWriters : Prop :=
  (∀ (s t : State) (c : HostCycle) (rest : List HostCycle),
    s.pending = c :: rest → step s = .next t →
      t.block.crcAcc =
        if c.isReset then 0xFF#8
        else if c.isCommand 0x02#8 then 0xFF#8
        else if c.isProcess then
          crc8 0xFF#8 [s.block.payload.p0, s.block.payload.p1, s.block.payload.p2,
            s.block.payload.p3, s.block.payload.p4, s.block.payload.p5]
        else if c.isTransaction && c.we && c.addr == 0x0A#5 then crc8Update s.block.crcAcc c.wdata
        else s.block.crcAcc) ∧
  (∀ b : Block, b.readReg 0x0A#5 = b.crcAcc) ∧ State.reset.block.crcAcc = 0xFF#8

/-- The payload is changed by no cycle but a write of one of its bytes and reset, and VARIANT by none but
a write of CTRL and reset (10_state.md sections 3 and 4). -/
def Obligations.PayloadAndVariantWriters : Prop :=
  ∀ (s t : State) (c : HostCycle) (rest : List HostCycle),
    s.pending = c :: rest → step s = .next t →
      (c.setsPayload = false → t.block.payload = s.block.payload) ∧
      (c.setsVariant = false → t.block.variant = s.block.variant)

/-- Every write but a CRC feed is idempotent, and a CRC feed is not (20_memory.md section 4). -/
def Obligations.WritesAreIdempotentButForTheCrc : Prop :=
  (∀ (i : Instr) (s : State), i.wellFormed = true → i.isWrite = true → i.addr ≠ 0x0A#5 →
    ∃ t : State, exec i s = .next t ∧ exec i t = .next t) ∧
  (∃ (s t u : State) (d : Byte), exec (.wrCrc d) s = .next t ∧ exec (.wrCrc d) t = .next u ∧
    u.block.crcAcc ≠ t.block.crcAcc)

/-- Three reads of one code give bytes of one PROCESS whenever no PROCESS, CLEAR or reset falls between
them (20_memory.md section 4): whatever else the host does between, the three bytes it read make up the
code. -/
def Obligations.SplitReadsAreConsistent : Prop :=
  ∀ (s : State) (cs ds : List HostCycle),
    (∀ c ∈ cs, c.setsResults = false) → (∀ c ∈ ds, c.setsResults = false) →
    (∃ (t : State) (b0 b1 b2 : Byte) (os ps : List Byte),
      runCycles
        (HostCycle.memRead 0x0C#5 :: cs ++ HostCycle.memRead 0x0D#5 :: ds ++
          [HostCycle.memRead 0x0E#5]) s = .next t ∧
      t.observed = s.observed ++ b0 :: os ++ b1 :: ps ++ [b2] ∧
      os.length = cs.countP HostCycle.isRead ∧ ps.length = ds.countP HostCycle.isRead ∧
      joinCode b0 b1 b2 = s.block.humRaw) ∧
    (∃ (t : State) (b0 b1 b2 : Byte) (os ps : List Byte),
      runCycles
        (HostCycle.memRead 0x10#5 :: cs ++ HostCycle.memRead 0x11#5 :: ds ++
          [HostCycle.memRead 0x12#5]) s = .next t ∧
      t.observed = s.observed ++ b0 :: os ++ b1 :: ps ++ [b2] ∧
      os.length = cs.countP HostCycle.isRead ∧ ps.length = ds.countP HostCycle.isRead ∧
      joinCode b0 b1 b2 = s.block.tempRaw)

/-! ## Register reads and writes (40_register_access.md) -/

/-- R80: `rd.payloadN`. -/
def Obligations.PayloadReads : Prop :=
  ∀ n : Fin 7,
    (∀ w : TWord, decode w = Instr.payloadRead n ↔ w &&& 0x3F00#14 = BitVec.ofNat 14 (n.val <<< 8)) ∧
    (∀ s : State, exec (Instr.payloadRead n) s = .next
      { s with
        rdata := s.block.payload.get n, observed := s.observed ++ [s.block.payload.get n] }) ∧
    (∀ (s : State) (d : Byte), ∃ t u v : State,
      exec (Instr.payloadWrite n d) s = .next t ∧ exec .cmdProcess t = .next u ∧
      exec (Instr.payloadRead n) u = .next v ∧ v.rdata = d) ∧
    State.reset.block.payload.get n = 0x00#8

/-- R81: `wr.payloadN` stores D, whatever it is, in its own byte and changes nothing else. -/
def Obligations.PayloadWrites : Prop :=
  ∀ (n : Fin 7),
    (∀ w : TWord, decode w = Instr.payloadWrite n (wordData w) ↔
      w &&& 0x3F00#14 = 0x2000#14 ||| BitVec.ofNat 14 (n.val <<< 8)) ∧
    (∀ (s : State) (d : Byte), ∃ t : State, exec (Instr.payloadWrite n d) s = .next t ∧
      t.block.payload.get n = d ∧
      (∀ m : Fin 7, m ≠ n → t.block.payload.get m = s.block.payload.get m) ∧
      t = { s with block := { s.block with payload := t.block.payload }, rdata := 0x00#8 })

/-- R82, R83: CTRL reads as `{0b0000000, VARIANT}`, and a write keeps bit 0 only. -/
def Obligations.CtrlReadsAndWrites : Prop :=
  (∀ w : TWord, decode w = .rdCtrl ↔ w &&& 0x3F00#14 = 0x0800#14) ∧
  (∀ w : TWord, decode w = .wrCtrl (wordData w) ↔ w &&& 0x3F00#14 = 0x2800#14) ∧
  (∀ s : State, ∃ t : State, exec .rdCtrl s = .next t ∧
    t.rdata = (if s.block.variant = .aht2x then 0x01#8 else 0x00#8) ∧
    t = { s with rdata := t.rdata, observed := s.observed ++ [t.rdata] }) ∧
  (∀ (s : State) (d : Byte), ∃ t : State, exec (.wrCtrl d) s = .next t ∧
    (t.block.variant = .aht2x ↔ d.getLsbD 0 = true) ∧
    t = { s with block := { s.block with variant := t.block.variant }, rdata := 0x00#8 })

/-- R84: STATUS reads as `(ILLEGAL << 3) | (VALID << 2) | RESULT`, one of eight values, and reading it
clears nothing. -/
def Obligations.StatusReads : Prop :=
  (∀ w : TWord, decode w = .rdStatus ↔ w &&& 0x3F00#14 = 0x0900#14) ∧
  (∀ s : State, ∃ t : State, exec .rdStatus s = .next t ∧
    t.rdata =
      (match s.block.result, s.block.illegal with
        | .none, false => 0x00#8 | .none, true => 0x08#8
        | .ok, false => 0x05#8 | .ok, true => 0x0D#8
        | .timeout, false => 0x02#8 | .timeout, true => 0x0A#8
        | .badcrc, false => 0x03#8 | .badcrc, true => 0x0B#8) ∧
    t = { s with rdata := t.rdata, observed := s.observed ++ [t.rdata] })

/-- R85, R89: a write to STATUS or to a byte of the results changes no state. -/
def Obligations.ReadOnlyWritesChangeNothing : Prop :=
  (∀ w : TWord, (decode w = .wrRoStatus (wordData w) ↔ w &&& 0x3F00#14 = 0x2900#14) ∧
    (decode w = .wrRoHum0 (wordData w) ↔ w &&& 0x3F00#14 = 0x2C00#14) ∧
    (decode w = .wrRoHum1 (wordData w) ↔ w &&& 0x3F00#14 = 0x2D00#14) ∧
    (decode w = .wrRoHum2 (wordData w) ↔ w &&& 0x3F00#14 = 0x2E00#14) ∧
    (decode w = .wrRoTemp0 (wordData w) ↔ w &&& 0x3F00#14 = 0x3000#14) ∧
    (decode w = .wrRoTemp1 (wordData w) ↔ w &&& 0x3F00#14 = 0x3100#14) ∧
    (decode w = .wrRoTemp2 (wordData w) ↔ w &&& 0x3F00#14 = 0x3200#14)) ∧
  (∀ (d : Byte) (i : Instr),
    i ∈ [Instr.wrRoStatus d, .wrRoHum0 d, .wrRoHum1 d, .wrRoHum2 d, .wrRoTemp0 d, .wrRoTemp1 d,
      .wrRoTemp2 d] →
    ∀ s : State, exec i s = .next { s with rdata := 0x00#8 })

/-- R86: CMD reads 0x00 in every state. -/
def Obligations.CmdReadsZero : Prop :=
  (∀ w : TWord, decode w = .rdCmd ↔ w &&& 0x3F00#14 = 0x0B00#14) ∧
  (∀ s : State, exec .rdCmd s = .next { s with rdata := 0x00#8, observed := s.observed ++ [0x00#8] })

/-- R87, R88: the three bytes of each code, least significant first. -/
def Obligations.ResultReads : Prop :=
  (∀ w : TWord, (decode w = .rdHum0 ↔ w &&& 0x3F00#14 = 0x0C00#14) ∧
    (decode w = .rdHum1 ↔ w &&& 0x3F00#14 = 0x0D00#14) ∧
    (decode w = .rdHum2 ↔ w &&& 0x3F00#14 = 0x0E00#14) ∧
    (decode w = .rdTemp0 ↔ w &&& 0x3F00#14 = 0x1000#14) ∧
    (decode w = .rdTemp1 ↔ w &&& 0x3F00#14 = 0x1100#14) ∧
    (decode w = .rdTemp2 ↔ w &&& 0x3F00#14 = 0x1200#14)) ∧
  (∀ (s : State) (i : Instr) (v : Nat),
    (i, v) ∈ [(Instr.rdHum0, s.block.humRaw.toNat % 256), (.rdHum1, s.block.humRaw.toNat / 256 % 256),
      (.rdHum2, s.block.humRaw.toNat / 65536), (.rdTemp0, s.block.tempRaw.toNat % 256),
      (.rdTemp1, s.block.tempRaw.toNat / 256 % 256), (.rdTemp2, s.block.tempRaw.toNat / 65536)] →
    v < 256 ∧ (i ∈ [Instr.rdHum2, .rdTemp2] → v < 16) ∧
    (s.block.Consistent → s.block.result ≠ .ok → v = 0) ∧
    exec i s = .next
      { s with rdata := BitVec.ofNat 8 v, observed := s.observed ++ [BitVec.ofNat 8 v] })

/-- R90: a reserved address reads 0x00. -/
def Obligations.ReservedReadsReturnZero : Prop :=
  (∀ w : TWord, (decode w = .rdRsvd07 ↔ w &&& 0x3F00#14 = 0x0700#14) ∧
    (decode w = .rdRsvd0F ↔ w &&& 0x3F00#14 = 0x0F00#14) ∧
    (decode w = .rdRsvd13 ↔ w &&& 0x3F00#14 = 0x1300#14) ∧
    (decode w = .rdRsvd14 (wordAddr w) ↔ w &&& 0x3C00#14 = 0x1400#14) ∧
    (decode w = .rdRsvd18 (wordAddr w) ↔ w &&& 0x3800#14 = 0x1800#14)) ∧
  (∀ (a : RegAddr) (i : Instr),
    i ∈ [Instr.rdRsvd07, .rdRsvd0F, .rdRsvd13, .rdRsvd14 a, .rdRsvd18 a] →
    ∀ s : State, exec i s = .next { s with rdata := 0x00#8, observed := s.observed ++ [0x00#8] })

/-- R91: a write to a reserved address changes no state and does not set ILLEGAL. -/
def Obligations.ReservedWritesChangeNothing : Prop :=
  (∀ w : TWord, (decode w = .wrRsvd07 (wordData w) ↔ w &&& 0x3F00#14 = 0x2700#14) ∧
    (decode w = .wrRsvd0F (wordData w) ↔ w &&& 0x3F00#14 = 0x2F00#14) ∧
    (decode w = .wrRsvd13 (wordData w) ↔ w &&& 0x3F00#14 = 0x3300#14) ∧
    (decode w = .wrRsvd14 (wordAddr w) (wordData w) ↔ w &&& 0x3C00#14 = 0x3400#14) ∧
    (decode w = .wrRsvd18 (wordAddr w) (wordData w) ↔ w &&& 0x3800#14 = 0x3800#14)) ∧
  (∀ (a : RegAddr) (d : Byte) (i : Instr),
    i ∈ [Instr.wrRsvd07 d, .wrRsvd0F d, .wrRsvd13 d, .wrRsvd14 a d, .wrRsvd18 a d] →
    ∀ s : State, exec i s = .next { s with rdata := 0x00#8 })

/-! ## PROCESS (41_process.md) -/

/-- R100: the fields of the payload read as one 56-bit value. -/
def Obligations.PayloadLayout : Prop :=
  ∀ p : Payload,
    p.p0 = p.word.extractLsb' 48 8 ∧ p.humRaw = p.word.extractLsb' 28 20 ∧
    p.tempRaw = p.word.extractLsb' 8 20 ∧ p.p6 = p.word.extractLsb' 0 8 ∧
    p.word.extractLsb' 28 20 = p.p1 ++ p.p2 ++ p.p3.extractLsb' 4 4 ∧
    p.word.extractLsb' 8 20 = p.p3.extractLsb' 0 4 ++ p.p4 ++ p.p5

/-- R103, R104: the codes as sums of the bytes' weights. -/
def Obligations.CodesInArithmetic : Prop :=
  ∀ p : Payload,
    p.humRaw.toNat = p.p1.toNat * 4096 + p.p2.toNat * 16 + p.p3.toNat / 16 ∧
    p.humRaw.toNat = (p.p1.toNat * 2 ^ 16 + p.p2.toNat * 2 ^ 8 + p.p3.toNat) / 2 ^ 4 ∧
    p.tempRaw.toNat = p.p3.toNat % 16 * 65536 + p.p4.toNat * 256 + p.p5.toNat ∧
    p.tempRaw.toNat = (p.p3.toNat * 2 ^ 16 + p.p4.toNat * 2 ^ 8 + p.p5.toNat) % 2 ^ 20

/-- R105: the codes and the bytes P1..P5 determine each other, byte 3 split at bit 4. -/
def Obligations.CodesAndBytesBiject : Prop :=
  (∀ p : Payload,
    p.p3 = p.humRaw.extractLsb' 0 4 ++ p.tempRaw.extractLsb' 16 4 ∧
    p.p1 = p.humRaw.extractLsb' 12 8 ∧ p.p2 = p.humRaw.extractLsb' 4 8 ∧
    p.p4 = p.tempRaw.extractLsb' 8 8 ∧ p.p5 = p.tempRaw.extractLsb' 0 8) ∧
  (∀ (st crc : Byte) (h t : Code20),
    (Payload.pack st h t crc).humRaw = h ∧ (Payload.pack st h t crc).tempRaw = t) ∧
  (∀ p : Payload, Payload.pack p.p0 p.humRaw p.tempRaw p.p6 = p)

/-- R106, R107: PROCESS. The busy check comes first, then the CRC check, made for AHT2x, then the decode;
CRC_ACC is the payload CRC in every outcome; the rest is unchanged, and a second PROCESS changes nothing.
The example is PR-01. -/
def Obligations.ProcessOutcomes : Prop :=
  (∀ w : TWord, decode w = .cmdProcess ↔ w = 0x2B01#14) ∧
  (∀ s : State, ∃ t : State, exec .cmdProcess s = .next t ∧
    t.block.crcAcc = crc8 0xFF#8 [s.block.payload.p0, s.block.payload.p1, s.block.payload.p2,
      s.block.payload.p3, s.block.payload.p4, s.block.payload.p5] ∧
    (s.block.payload.p0.getLsbD 6 = true →
      t.block.result = .timeout ∧ t.block.humRaw = 0 ∧ t.block.tempRaw = 0) ∧
    (s.block.payload.p0.getLsbD 6 = false → s.block.variant = .aht2x →
      t.block.crcAcc ≠ s.block.payload.p6 →
      t.block.result = .badcrc ∧ t.block.humRaw = 0 ∧ t.block.tempRaw = 0) ∧
    (s.block.payload.p0.getLsbD 6 = false →
      (s.block.variant = .aht1x ∨ t.block.crcAcc = s.block.payload.p6) →
      t.block.result = .ok ∧ t.block.humRaw = s.block.payload.humRaw ∧
      t.block.tempRaw = s.block.payload.tempRaw) ∧
    t = { s with
      block := { s.block with
        crcAcc := t.block.crcAcc, result := t.block.result
        humRaw := t.block.humRaw, tempRaw := t.block.tempRaw }
      rdata := 0x00#8 } ∧
    exec .cmdProcess t = .next t) ∧
  (∀ s : State,
    s.block.payload = ⟨0x08#8, 0x73#8, 0x33#8, 0x36#8, 0x00#8, 0x00#8, 0x1D#8⟩ →
    s.block.variant = .aht2x → ∃ t : State, exec .cmdProcess s = .next t ∧
      t.block.crcAcc = 0x1D#8 ∧ t.block.result = .ok ∧ t.block.humRaw = 0x73333#20 ∧
      t.block.tempRaw = 0x60000#20)

/-- R108: the CRC comparison is made exactly when VARIANT = 1; under AHT1x the value of P6 affects no
result. -/
def Obligations.VariantGatesTheCrcCheck : Prop :=
  (∀ (s : State) (x : Byte), s.block.variant = .aht1x → ∃ t u : State,
    exec .cmdProcess s = .next t ∧
    exec .cmdProcess { s with block.payload.p6 := x } = .next u ∧
    t.block.results = u.block.results ∧ t.block.result ≠ .badcrc) ∧
  (∀ s : State, s.block.variant = .aht2x → s.block.payload.p0.getLsbD 6 = false →
    ∃ t : State, exec .cmdProcess s = .next t ∧
      (t.block.result = .badcrc ↔
        crc8 0xFF#8 [s.block.payload.p0, s.block.payload.p1, s.block.payload.p2,
          s.block.payload.p3, s.block.payload.p4, s.block.payload.p5] ≠ s.block.payload.p6))

/-- R127: PROCESS overwrites CRC_ACC and never reads it, so what was streamed changes nothing it
leaves. -/
def Obligations.ProcessNeverReadsCrcAcc : Prop :=
  ∀ (s : State) (x : Byte), ∃ t : State,
    exec .cmdProcess s = .next t ∧ exec .cmdProcess { s with block.crcAcc := x } = .next t ∧
    t.block.crcAcc = s.block.payload.crc

/-- For AHT2x, a payload with a right CRC byte is never accepted once any single one of its seven bytes
has been changed (from 42_crc.md R123 (d) and R106). -/
def Obligations.ChangedByteIsNeverAccepted : Prop :=
  ∀ (s : State) (n : Fin 7) (d : Byte),
    s.block.variant = .aht2x → s.block.payload.crcOk = true → d ≠ s.block.payload.get n →
    ∃ t u : State, exec (Instr.payloadWrite n d) s = .next t ∧ exec .cmdProcess t = .next u ∧
      u.block.result ≠ .ok ∧ u.block.humRaw = 0 ∧ u.block.tempRaw = 0

/-- No clamping (41_process.md R112): under either variant, every pair of codes is what PROCESS decodes
from the payload that packs it. -/
def Obligations.EveryPairOfCodesDecodes : Prop :=
  ∀ (s : State) (st : Byte) (h t : Code20),
    st.getLsbD 6 = false → s.block.payload = Payload.seal st h t →
    ∃ u : State, exec .cmdProcess s = .next u ∧
      u.block.result = .ok ∧ u.block.humRaw = h ∧ u.block.tempRaw = t

/-! ## Units and the host's side (41_process.md R110 to R114, 60_exceptions.md R152) -/

/-- R110, R111: the exact formulas, their ranges and their stated values. -/
def Obligations.EngineeringUnits : Prop :=
  (∀ h : Code20, humidity h = 100 * (h.toNat : Rat) / 2 ^ 20 ∧
    0 ≤ humidity h ∧ humidity h ≤ 100 - 100 / 2 ^ 20) ∧
  humidity 0x80000#20 = 50 ∧ humidity 0xFFFFF#20 = 100 - 100 / 2 ^ 20 ∧
  (∀ t : Code20, temperature t = 200 * (t.toNat : Rat) / 2 ^ 20 - 50 ∧
    -50 ≤ temperature t ∧ temperature t ≤ 150 - 200 / 2 ^ 20) ∧
  temperature 0x40000#20 = 0 ∧ temperature 0x60000#20 = 25 ∧
  temperature 0xFFFFF#20 = 150 - 200 / 2 ^ 20

/-- R114: encoding a humidity and a temperature, packing the codes and running PROCESS gives them back to
half a code step, and to less than a step where the clamp acts, for every rounding of ties. -/
def Obligations.EncodeProcessRoundTrip : Prop :=
  ∀ (s : State) (st : Byte) (H T : Rat) (m n : Int),
    0 ≤ H → H < 100 → -50 ≤ T → T < 150 →
    IsNearest (humTarget H) m → IsNearest (tempTarget T) n →
    st.getLsbD 6 = false → s.block.payload = Payload.seal st (clampCode m) (clampCode n) →
    ∃ u : State, exec .cmdProcess s = .next u ∧ u.block.result = .ok ∧
      (m ≤ 0xFFFFF → |humidity u.block.humRaw - H| ≤ 50 / 2 ^ 20) ∧
      (0xFFFFF < m → |humidity u.block.humRaw - H| < 100 / 2 ^ 20) ∧
      (n ≤ 0xFFFFF → |temperature u.block.tempRaw - T| ≤ 100 / 2 ^ 20) ∧
      (0xFFFFF < n → |temperature u.block.tempRaw - T| < 200 / 2 ^ 20)

/-- What a driver built around the block reports after PROCESS (60_exceptions.md section 2), for every
conversion: Timeout when the payload is busy, InvalidChecksum when an AHT2x payload's CRC is wrong, and
otherwise the measurement the conversion makes of the payload's codes. A conversion with the one property
R113 allows at a code puts that code's value within 0.01 of the exact one; the reading of binary32 there
is PRESUMED (log 8). -/
def Obligations.DriverReportsTheOutcome : Prop :=
  ∀ (conv : EngF32) (s : State), ∃ t : State, exec .cmdProcess s = .next t ∧
    (s.block.payload.busy = true → driverReport conv t.block = some .timeout) ∧
    (s.block.payload.busy = false → s.block.variant = .aht2x → s.block.payload.crcOk = false →
      driverReport conv t.block = some .invalidChecksum) ∧
    (s.block.payload.busy = false → (s.block.variant = .aht1x ∨ s.block.payload.crcOk = true) →
      driverReport conv t.block = some (.measurement
        (conv s.block.payload.humRaw).1 (conv s.block.payload.tempRaw).2) ∧
      (AccurateAt conv s.block.payload.humRaw →
        Within001 (conv s.block.payload.humRaw).1 (humidity s.block.payload.humRaw)) ∧
      (AccurateAt conv s.block.payload.tempRaw →
        Within001 (conv s.block.payload.tempRaw).2 (temperature s.block.payload.tempRaw)))

/-! ## CRC-8 (42_crc.md) -/

/-- R123: the table law, the residue, the two corner values, and that a change of any one byte of P0..P5
changes the payload CRC. -/
def Obligations.CrcProperties : Prop :=
  (∀ c b : Byte, crc8Update c b = crc8Update 0 (c ^^^ b)) ∧
  (∀ m : List Byte, crc8 0xFF#8 (m ++ [crc8 0xFF#8 m]) = 0x00#8) ∧
  (∀ p : Payload, p.crcOk = true →
    crc8 0xFF#8 [p.p0, p.p1, p.p2, p.p3, p.p4, p.p5, p.p6] = 0x00#8) ∧
  crc8 0xFF#8 [0xFF#8] = 0x00#8 ∧ crc8 0xFF#8 [] = 0xFF#8 ∧
  (∀ b : Byte, Function.Bijective fun c => crc8Update c b) ∧
  (∀ (p : Payload) (n : Fin 7) (d : Byte), n.val < 6 → d ≠ p.get n → (p.set n d).crc ≠ p.crc)

/-- The spec's CRC values: the check value of "123456789", its residue, the reset payload's CRC and rows
of table T2 (95_test_vectors.md). -/
def Obligations.CrcCheckValues : Prop :=
  crc8 0xFF#8 [0x31#8, 0x32#8, 0x33#8, 0x34#8, 0x35#8, 0x36#8, 0x37#8, 0x38#8, 0x39#8] = 0xF7#8 ∧
  crc8 0xFF#8 [0x00#8] = 0xAC#8 ∧ crc8 0xFF#8 [0x80#8] = 0xD6#8 ∧ crc8 0x00#8 [0x01#8] = 0x31#8 ∧
  State.reset.block.payload.crc = 0x6A#8

/-- R124, R125, R126: reading CRC_ACC, feeding one byte, CRC_INIT. -/
def Obligations.CrcEngineTransactions : Prop :=
  (∀ w : TWord, (decode w = .rdCrc ↔ w &&& 0x3F00#14 = 0x0A00#14) ∧
    (decode w = .wrCrc (wordData w) ↔ w &&& 0x3F00#14 = 0x2A00#14) ∧
    (decode w = .cmdCrcInit ↔ w = 0x2B02#14)) ∧
  (∀ s : State, exec .rdCrc s = .next
    { s with rdata := s.block.crcAcc, observed := s.observed ++ [s.block.crcAcc] }) ∧
  (∀ (s : State) (d : Byte), exec (.wrCrc d) s = .next
    { s with block := { s.block with crcAcc := crc8Update s.block.crcAcc d }, rdata := 0x00#8 }) ∧
  (∀ s : State, exec .cmdCrcInit s = .next
    { s with block := { s.block with crcAcc := 0xFF#8 }, rdata := 0x00#8 }) ∧
  crc8Update 0xFF#8 0xFF#8 = 0x00#8 ∧ crc8Update 0x00#8 0x00#8 = 0x00#8 ∧
  crc8Update 0xFF#8 0x00#8 = 0xAC#8 ∧
  crc8 0xFF#8 [0x31#8, 0x32#8, 0x33#8, 0x34#8, 0x35#8, 0x36#8, 0x37#8, 0x38#8, 0x39#8] = 0xF7#8

/-! ## Control commands (43_control_commands.md) -/

/-- R140: `cmd.nop` leaves every state element as it was, as a write to a reserved address does. -/
def Obligations.NopChangesNothing : Prop :=
  (∀ w : TWord, decode w = .cmdNop ↔ w = 0x2B00#14) ∧
  (∀ s : State, exec .cmdNop s = .next { s with rdata := 0x00#8 }) ∧
  (∀ (s : State) (d : Byte), exec .cmdNop s = exec (.wrRsvd07 d) s)

/-- R141: `cmd.clear` clears the results and ILLEGAL and keeps the payload, VARIANT and CRC_ACC. -/
def Obligations.ClearClearsResultsAndIllegal : Prop :=
  (∀ w : TWord, decode w = .cmdClear ↔ w = 0x2B03#14) ∧
  (∀ s : State, exec .cmdClear s = .next
    { s with
      block := { s.block with result := .none, humRaw := 0, tempRaw := 0, illegal := false }
      rdata := 0x00#8 })

/-- R142: a reserved command code sets ILLEGAL and nothing else, whichever code it is. -/
def Obligations.ReservedCommandsSetIllegal : Prop :=
  (∀ w : TWord, (decode w = .cmdRsvd04 (wordData w) ↔ w &&& 0x3FFC#14 = 0x2B04#14) ∧
    (decode w = .cmdRsvd08 (wordData w) ↔ w &&& 0x3FF8#14 = 0x2B08#14) ∧
    (decode w = .cmdRsvd10 (wordData w) ↔ w &&& 0x3FF0#14 = 0x2B10#14) ∧
    (decode w = .cmdRsvd20 (wordData w) ↔ w &&& 0x3FE0#14 = 0x2B20#14) ∧
    (decode w = .cmdRsvd40 (wordData w) ↔ w &&& 0x3FC0#14 = 0x2B40#14) ∧
    (decode w = .cmdRsvd80 (wordData w) ↔ w &&& 0x3F80#14 = 0x2B80#14)) ∧
  (∀ (d : Byte) (i : Instr),
    i ∈ [Instr.cmdRsvd04 d, .cmdRsvd08 d, .cmdRsvd10 d, .cmdRsvd20 d, .cmdRsvd40 d, .cmdRsvd80 d] →
    ∀ s : State, exec i s = .next
      { s with block := { s.block with illegal := true }, rdata := 0x00#8 })
end

