-- ==== Sys2Proof/Laws/State.lean ====
section
/-! SUPPORT. One lemma for each field under each update of the state, true by unfolding once. -/

namespace Sys2Proof.Machine

/-! ## The machine -/

@[simp] theorem State.answered_block (s : State) (v : Byte) :
    (s.answered v).block = s.block := rfl

@[simp] theorem State.answered_rdata (s : State) (v : Byte) :
    (s.answered v).rdata = v := rfl

@[simp] theorem State.answered_observed (s : State) (v : Byte) :
    (s.answered v).observed = s.observed ++ [v] := rfl

@[simp] theorem State.answered_pending (s : State) (v : Byte) :
    (s.answered v).pending = s.pending := rfl

@[simp] theorem State.committed_block (s : State) (b : Block) :
    (s.committed b).block = b := rfl

@[simp] theorem State.committed_rdata (s : State) (b : Block) :
    (s.committed b).rdata = 0x00#8 := rfl

@[simp] theorem State.committed_observed (s : State) (b : Block) :
    (s.committed b).observed = s.observed := rfl

@[simp] theorem State.committed_pending (s : State) (b : Block) :
    (s.committed b).pending = s.pending := rfl

@[simp] theorem State.present_block (s : State) (c : HostCycle) :
    (s.present c).block = s.block := rfl

@[simp] theorem State.present_rdata (s : State) (c : HostCycle) :
    (s.present c).rdata = s.rdata := rfl

@[simp] theorem State.present_observed (s : State) (c : HostCycle) :
    (s.present c).observed = s.observed := rfl

@[simp] theorem State.present_pending (s : State) (c : HostCycle) :
    (s.present c).pending = c :: s.pending := rfl

/-! ## The block -/

@[simp] theorem Block.setPayload_payload (b : Block) (n : Fin 7) (d : Byte) :
    (b.setPayload n d).payload = b.payload.set n d := rfl

@[simp] theorem Block.setPayload_variant (b : Block) (n : Fin 7) (d : Byte) :
    (b.setPayload n d).variant = b.variant := rfl

@[simp] theorem Block.setPayload_crcAcc (b : Block) (n : Fin 7) (d : Byte) :
    (b.setPayload n d).crcAcc = b.crcAcc := rfl

@[simp] theorem Block.setPayload_result (b : Block) (n : Fin 7) (d : Byte) :
    (b.setPayload n d).result = b.result := rfl

@[simp] theorem Block.setPayload_illegal (b : Block) (n : Fin 7) (d : Byte) :
    (b.setPayload n d).illegal = b.illegal := rfl

@[simp] theorem Block.setPayload_humRaw (b : Block) (n : Fin 7) (d : Byte) :
    (b.setPayload n d).humRaw = b.humRaw := rfl

@[simp] theorem Block.setPayload_tempRaw (b : Block) (n : Fin 7) (d : Byte) :
    (b.setPayload n d).tempRaw = b.tempRaw := rfl

@[simp] theorem Block.setVariant_payload (b : Block) (v : SensorVariant) :
    (b.setVariant v).payload = b.payload := rfl

@[simp] theorem Block.setVariant_variant (b : Block) (v : SensorVariant) :
    (b.setVariant v).variant = v := rfl

@[simp] theorem Block.setVariant_crcAcc (b : Block) (v : SensorVariant) :
    (b.setVariant v).crcAcc = b.crcAcc := rfl

@[simp] theorem Block.setVariant_result (b : Block) (v : SensorVariant) :
    (b.setVariant v).result = b.result := rfl

@[simp] theorem Block.setVariant_illegal (b : Block) (v : SensorVariant) :
    (b.setVariant v).illegal = b.illegal := rfl

@[simp] theorem Block.setVariant_humRaw (b : Block) (v : SensorVariant) :
    (b.setVariant v).humRaw = b.humRaw := rfl

@[simp] theorem Block.setVariant_tempRaw (b : Block) (v : SensorVariant) :
    (b.setVariant v).tempRaw = b.tempRaw := rfl

@[simp] theorem Block.setCrcAcc_payload (b : Block) (c : Byte) :
    (b.setCrcAcc c).payload = b.payload := rfl

@[simp] theorem Block.setCrcAcc_variant (b : Block) (c : Byte) :
    (b.setCrcAcc c).variant = b.variant := rfl

@[simp] theorem Block.setCrcAcc_crcAcc (b : Block) (c : Byte) :
    (b.setCrcAcc c).crcAcc = c := rfl

@[simp] theorem Block.setCrcAcc_result (b : Block) (c : Byte) :
    (b.setCrcAcc c).result = b.result := rfl

@[simp] theorem Block.setCrcAcc_illegal (b : Block) (c : Byte) :
    (b.setCrcAcc c).illegal = b.illegal := rfl

@[simp] theorem Block.setCrcAcc_humRaw (b : Block) (c : Byte) :
    (b.setCrcAcc c).humRaw = b.humRaw := rfl

@[simp] theorem Block.setCrcAcc_tempRaw (b : Block) (c : Byte) :
    (b.setCrcAcc c).tempRaw = b.tempRaw := rfl

@[simp] theorem Block.setOutcome_payload (b : Block) (r : ProcessResult) (h t : Code20) :
    (b.setOutcome r h t).payload = b.payload := rfl

@[simp] theorem Block.setOutcome_variant (b : Block) (r : ProcessResult) (h t : Code20) :
    (b.setOutcome r h t).variant = b.variant := rfl

@[simp] theorem Block.setOutcome_crcAcc (b : Block) (r : ProcessResult) (h t : Code20) :
    (b.setOutcome r h t).crcAcc = b.crcAcc := rfl

@[simp] theorem Block.setOutcome_result (b : Block) (r : ProcessResult) (h t : Code20) :
    (b.setOutcome r h t).result = r := rfl

@[simp] theorem Block.setOutcome_illegal (b : Block) (r : ProcessResult) (h t : Code20) :
    (b.setOutcome r h t).illegal = b.illegal := rfl

@[simp] theorem Block.setOutcome_humRaw (b : Block) (r : ProcessResult) (h t : Code20) :
    (b.setOutcome r h t).humRaw = h := rfl

@[simp] theorem Block.setOutcome_tempRaw (b : Block) (r : ProcessResult) (h t : Code20) :
    (b.setOutcome r h t).tempRaw = t := rfl

@[simp] theorem Block.setIllegal_payload (b : Block) (f : Bool) :
    (b.setIllegal f).payload = b.payload := rfl

@[simp] theorem Block.setIllegal_variant (b : Block) (f : Bool) :
    (b.setIllegal f).variant = b.variant := rfl

@[simp] theorem Block.setIllegal_crcAcc (b : Block) (f : Bool) :
    (b.setIllegal f).crcAcc = b.crcAcc := rfl

@[simp] theorem Block.setIllegal_result (b : Block) (f : Bool) :
    (b.setIllegal f).result = b.result := rfl

@[simp] theorem Block.setIllegal_illegal (b : Block) (f : Bool) :
    (b.setIllegal f).illegal = f := rfl

@[simp] theorem Block.setIllegal_humRaw (b : Block) (f : Bool) :
    (b.setIllegal f).humRaw = b.humRaw := rfl

@[simp] theorem Block.setIllegal_tempRaw (b : Block) (f : Bool) :
    (b.setIllegal f).tempRaw = b.tempRaw := rfl

/-! ## The payload -/

/-- The byte just set reads back, and every other byte is as before. -/
theorem Payload.get_set (p : Payload) (n m : Fin 7) (d : Byte) :
    (p.set n d).get m = if m = n then d else p.get m := by
  fin_cases n <;> fin_cases m <;> rfl

@[simp] theorem Payload.get_set_same (p : Payload) (n : Fin 7) (d : Byte) :
    (p.set n d).get n = d := by
  simp [Payload.get_set]

/-- Two payloads with the same seven bytes are the same. -/
theorem Payload.ext_get {p q : Payload} (h : ∀ n, p.get n = q.get n) : p = q := by
  cases p; cases q
  have h0 := h 0; have h1 := h 1; have h2 := h 2; have h3 := h 3
  have h4 := h 4; have h5 := h 5; have h6 := h 6
  simp_all [Payload.get]

end Sys2Proof.Machine
end

