-- ==== Sys2Proof/Laws/Words.lean ====
section
/-! SUPPORT. The fields of a transaction word, once: building a word and taking it apart. -/

namespace Sys2Proof

/-- The bits of a built word: D in bits 7:0, A in bits 12:8, W in bit 13 (R61). -/
theorem getLsbD_mkWord (wr : Bool) (a : RegAddr) (d : Byte) (i : Nat) :
    (mkWord wr a d).getLsbD i =
      if i < 8 then d.getLsbD i else if i < 13 then a.getLsbD (i - 8) else (decide (i = 13) && wr) := by
  have h : (mkWord wr a d).getLsbD i = (BitVec.ofBool wr ++ a ++ d : BitVec (1 + 5 + 8)).getLsbD i := rfl
  rw [h, BitVec.getLsbD_append, BitVec.getLsbD_append]
  rcases Nat.lt_or_ge i 8 with h8 | h8
  · simp [h8]
  · rcases Nat.lt_or_ge i 13 with h13 | h13
    · simp [Nat.not_lt.2 h8, h13, show i - 8 < 5 by omega]
    · rcases Nat.eq_or_lt_of_le h13 with rfl | hlt
      · simp
      · simp [Nat.not_lt.2 h8, Nat.not_lt.2 h13, show ¬ i - 8 < 5 by omega, show ¬ i = 13 by omega,
          show ¬ i - 8 - 5 = 0 by omega]

@[simp] theorem wordIsWrite_mkWord (wr : Bool) (a : RegAddr) (d : Byte) :
    wordIsWrite (mkWord wr a d) = wr := by
  simp [wordIsWrite, -BitVec.getLsbD_eq_getElem, getLsbD_mkWord]

@[simp] theorem wordAddr_mkWord (wr : Bool) (a : RegAddr) (d : Byte) :
    wordAddr (mkWord wr a d) = a := by
  apply BitVec.eq_of_getLsbD_eq
  intro i hi
  simp only [wordAddr, BitVec.getLsbD_extractLsb', getLsbD_mkWord]
  simp [hi, show 8 + i < 13 by omega]

@[simp] theorem wordData_mkWord (wr : Bool) (a : RegAddr) (d : Byte) :
    wordData (mkWord wr a d) = d := by
  apply BitVec.eq_of_getLsbD_eq
  intro i hi
  simp only [wordData, BitVec.getLsbD_extractLsb', getLsbD_mkWord]
  simp [hi]

/-- A word is its three fields. -/
theorem mkWord_fields (w : TWord) : mkWord (wordIsWrite w) (wordAddr w) (wordData w) = w := by
  apply BitVec.eq_of_getLsbD_eq
  intro i hi
  simp only [getLsbD_mkWord, wordIsWrite, wordAddr, wordData, BitVec.getLsbD_extractLsb']
  rcases Nat.lt_or_ge i 8 with h8 | h8
  · simp [h8]
  · rcases Nat.lt_or_ge i 13 with h13 | h13
    · simp [Nat.not_lt.2 h8, h13, show i - 8 < 5 by omega, show 8 + (i - 8) = i by omega]
    · obtain rfl : i = 13 := by omega
      simp

/-- Masking a word masks its fields. -/
theorem mkWord_and (wr wr' : Bool) (a a' : RegAddr) (d d' : Byte) :
    mkWord wr a d &&& mkWord wr' a' d' = mkWord (wr && wr') (a &&& a') (d &&& d') := by
  apply BitVec.eq_of_getLsbD_eq
  intro i hi
  simp only [BitVec.getLsbD_and, getLsbD_mkWord]
  split
  · rfl
  · split
    · rfl
    · cases decide (i = 13) <;> simp

@[simp] theorem encode_isWrite (i : Instr) : wordIsWrite (encode i) = i.isWrite :=
  wordIsWrite_mkWord _ _ _

@[simp] theorem encode_addr (i : Instr) : wordAddr (encode i) = i.addr := wordAddr_mkWord _ _ _

@[simp] theorem encode_data (i : Instr) : wordData (encode i) = i.data := wordData_mkWord _ _ _

/-- A read is decoded from its address alone. -/
theorem decode_mkWord_read (a : RegAddr) (d : Byte) : decode (mkWord false a d) = decodeRead a := by
  simp [decode]

/-- A write is decoded from its address and data. -/
theorem decode_mkWord_write (a : RegAddr) (d : Byte) :
    decode (mkWord true a d) = decodeWrite a d := by
  simp [decode]

end Sys2Proof
end

