-- ==== Sys2Proof/Laws/Ops.lean ====
section
/-! SUPPORT. What each shared operation can do, said once. -/

namespace Sys2Proof.Machine

/-! ## Completing a transaction -/

/-- A read answers the one state in which rdata carried the value and the host observed it. -/
theorem answerRead_eq_next {v : Byte} {s t : State} :
    answerRead v s = .next t ↔ t = s.answered v := by
  simp [answerRead, eq_comm]

/-- A completed write answers the one state with the new block. -/
theorem completeWrite_eq_next {b : Block} {s t : State} :
    completeWrite b s = .next t ↔ t = s.committed b := by
  simp [completeWrite, eq_comm]

/-- An ignored write keeps the block. -/
theorem ignoreWrite_eq_next {d : Byte} {s t : State} :
    ignoreWrite d s = .next t ↔ t = s.committed s.block :=
  completeWrite_eq_next

/-- A reserved command sets ILLEGAL and keeps the rest of the block. -/
theorem recordIllegal_eq_next {d : Byte} {s t : State} :
    recordIllegal d s = .next t ↔ t = s.committed (s.block.setIllegal true) :=
  completeWrite_eq_next

/-- A cycle without a transaction keeps the block. -/
theorem idleCycle_eq_next {s t : State} : idleCycle s = .next t ↔ t = s.committed s.block :=
  completeWrite_eq_next

/-- Reset leaves the reset block. -/
theorem resetBlock_eq_next {s t : State} : resetBlock s = .next t ↔ t = s.committed Block.reset :=
  completeWrite_eq_next

/-! ## Every instruction is a read or a write -/

/-- Whatever the instruction, it answers a next state that is a read's answer or a write's
completion. -/
theorem exec_next (i : Instr) (s : State) :
    (∃ v, exec i s = .next (s.answered v)) ∨ (∃ b, exec i s = .next (s.committed b)) := by
  cases i <;> first
    | exact .inl ⟨_, rfl⟩
    | exact .inr ⟨_, rfl⟩

/-- An instruction takes nothing from the host's stream. -/
theorem exec_pending {i : Instr} {s t : State} (h : exec i s = .next t) : t.pending = s.pending := by
  rcases exec_next i s with ⟨v, hv⟩ | ⟨b, hb⟩
  · rw [hv] at h; cases h; rfl
  · rw [hb] at h; cases h; rfl

/-! ## The host's stream -/

theorem takeCycle_nil {s : State} (h : s.pending = []) :
    s.takeCycle = (HostCycle.idle, s) := by
  simp [State.takeCycle, h]

theorem takeCycle_cons {s : State} {c : HostCycle} {rest : List HostCycle}
    (h : s.pending = c :: rest) : s.takeCycle = (c, { s with pending := rest }) := by
  simp [State.takeCycle, h]

/-- The cycle that was just presented is the next one taken. -/
@[simp] theorem takeCycle_present (s : State) (c : HostCycle) :
    (s.present c).takeCycle = (c, s) := rfl

@[simp] theorem ofWord_word (w : TWord) : (HostCycle.ofWord w).word = w := mkWord_fields w

/-! ## One cycle -/

/-- The three kinds of cycle: reset, idle, a transaction. -/
theorem busCycle_cases (c : HostCycle) (s : State) :
    (c.rstN = false ∧ busCycle c s = .next (s.committed Block.reset)) ∨
    (c.rstN = true ∧ c.sel = false ∧ busCycle c s = .next (s.committed s.block)) ∨
    (c.rstN = true ∧ c.sel = true ∧ busCycle c s = exec (decode c.word) s) := by
  cases hr : c.rstN
  · exact .inl ⟨rfl, by simp [busCycle, hr, resetBlock, completeWrite]⟩
  · cases hs : c.sel
    · exact .inr (.inl ⟨rfl, rfl, by simp [busCycle, hr, hs, idleCycle, completeWrite]⟩)
    · exact .inr (.inr ⟨rfl, rfl, by simp [busCycle, hr, hs]⟩)

/-- A step with a cycle pending runs that cycle on the rest of the machine. -/
theorem step_of_pending {s : State} {c : HostCycle} {rest : List HostCycle}
    (h : s.pending = c :: rest) : step s = busCycle c { s with pending := rest } := by
  rw [step, nextCycle, takeCycle_cons h]

/-- A step with nothing pending is an idle cycle. -/
theorem step_of_no_pending {s : State} (h : s.pending = []) : step s = idleCycle s := by
  rw [step, nextCycle, takeCycle_nil h]
  rfl

/-- A presented word is run on the state it was presented to. -/
theorem step_present_word (s : State) (w : TWord) :
    step (s.present (HostCycle.ofWord w)) = exec (decode w) s := by
  rw [step, nextCycle, takeCycle_present, busCycle]
  simp only [ofWord_word]
  rfl

/-! ## PROCESS -/

/-- What PROCESS can leave in RESULT and the codes. -/
theorem recordOutcome_cases (b : Block) :
    (processResult b.variant b.payload = .ok ∧
      b.recordOutcome = b.setOutcome .ok b.payload.humRaw b.payload.tempRaw) ∨
    (∃ r, r ≠ .ok ∧ processResult b.variant b.payload = r ∧
      b.recordOutcome = b.setOutcome r 0 0) := by
  unfold Block.recordOutcome
  cases h : processResult b.variant b.payload
  · exact .inr ⟨.none, by decide, rfl, rfl⟩
  · exact .inl ⟨rfl, rfl⟩
  · exact .inr ⟨.timeout, by decide, rfl, rfl⟩
  · exact .inr ⟨.badcrc, by decide, rfl, rfl⟩

end Sys2Proof.Machine
end

