-- ==== Sys2Proof/Laws/PerInstr.lean ====
section
/-! SUPPORT. Laws proved instruction by instruction, one lemma for each constructor of `Instr`. -/

namespace Sys2Proof.Laws.EncodesIntoRow

/-- The encoding of a well-formed instruction lies in the instruction's own row of the opcode table. -/
def Statement (i : Instr) : Prop := i.wellFormed = true → i.tableRow.covers (encode i) = true

/-- A row that fixes W and A covers every word with that W and A. -/
theorem covers_addr_row (wr : Bool) (a : RegAddr) (d : Byte) (r : TableRow)
    (hm : r.mask = mkWord true 0x1F#5 0x00#8) (hp : r.pattern = mkWord wr a 0x00#8) :
    r.covers (mkWord wr a d) = true := by
  have h1 : a &&& 0x1F#5 = a := (by decide : ∀ a : RegAddr, a &&& 0x1F#5 = a) a
  have h2 : d &&& 0x00#8 = 0x00#8 := BitVec.and_zero
  simp [TableRow.covers, hm, hp, mkWord_and, h1, h2]

/-- A row that fixes W and some bits of A. -/
theorem covers_range_row (wr : Bool) (a m p : RegAddr) (d : Byte) (r : TableRow)
    (hm : r.mask = mkWord true m 0x00#8) (hp : r.pattern = mkWord wr p 0x00#8) (h : a &&& m = p) :
    r.covers (mkWord wr a d) = true := by
  have h2 : d &&& 0x00#8 = 0x00#8 := BitVec.and_zero
  simp [TableRow.covers, hm, hp, mkWord_and, h, h2]

/-- A row of CMD that fixes some bits of D. -/
theorem covers_code_row (d m p : Byte) (r : TableRow) (hm : r.mask = mkWord true 0x1F#5 m)
    (hp : r.pattern = mkWord true 0x0B#5 p) (h : d &&& m = p) :
    r.covers (mkWord true 0x0B#5 d) = true := by
  simp [TableRow.covers, hm, hp, mkWord_and, h]

theorem inRow14 : ∀ a : RegAddr, inRange 0x14 0x17 a = true → a &&& 0x1C#5 = 0x14#5 := by decide

theorem inRow18 : ∀ a : RegAddr, inRange 0x18 0x1F a = true → a &&& 0x18#5 = 0x18#5 := by decide

theorem rdPayload0 : Statement .rdPayload0 := fun _ => by decide

theorem rdPayload1 : Statement .rdPayload1 := fun _ => by decide

theorem rdPayload2 : Statement .rdPayload2 := fun _ => by decide

theorem rdPayload3 : Statement .rdPayload3 := fun _ => by decide

theorem rdPayload4 : Statement .rdPayload4 := fun _ => by decide

theorem rdPayload5 : Statement .rdPayload5 := fun _ => by decide

theorem rdPayload6 : Statement .rdPayload6 := fun _ => by decide

theorem rdCtrl : Statement .rdCtrl := fun _ => by decide

theorem rdStatus : Statement .rdStatus := fun _ => by decide

theorem rdCrc : Statement .rdCrc := fun _ => by decide

theorem rdCmd : Statement .rdCmd := fun _ => by decide

theorem rdHum0 : Statement .rdHum0 := fun _ => by decide

theorem rdHum1 : Statement .rdHum1 := fun _ => by decide

theorem rdHum2 : Statement .rdHum2 := fun _ => by decide

theorem rdTemp0 : Statement .rdTemp0 := fun _ => by decide

theorem rdTemp1 : Statement .rdTemp1 := fun _ => by decide

theorem rdTemp2 : Statement .rdTemp2 := fun _ => by decide

theorem rdRsvd07 : Statement .rdRsvd07 := fun _ => by decide

theorem rdRsvd0F : Statement .rdRsvd0F := fun _ => by decide

theorem rdRsvd13 : Statement .rdRsvd13 := fun _ => by decide

theorem rdRsvd14 (a : RegAddr) : Statement (.rdRsvd14 a) := fun h =>
  covers_range_row false a 0x1C#5 0x14#5 _ _ rfl rfl (inRow14 a h)

theorem rdRsvd18 (a : RegAddr) : Statement (.rdRsvd18 a) := fun h =>
  covers_range_row false a 0x18#5 0x18#5 _ _ rfl rfl (inRow18 a h)

theorem wrPayload0 (d : Byte) : Statement (.wrPayload0 d) :=
  fun _ => covers_addr_row true 0x00#5 d (Instr.wrPayload0 d).tableRow rfl rfl

theorem wrPayload1 (d : Byte) : Statement (.wrPayload1 d) :=
  fun _ => covers_addr_row true 0x01#5 d (Instr.wrPayload1 d).tableRow rfl rfl

theorem wrPayload2 (d : Byte) : Statement (.wrPayload2 d) :=
  fun _ => covers_addr_row true 0x02#5 d (Instr.wrPayload2 d).tableRow rfl rfl

theorem wrPayload3 (d : Byte) : Statement (.wrPayload3 d) :=
  fun _ => covers_addr_row true 0x03#5 d (Instr.wrPayload3 d).tableRow rfl rfl

theorem wrPayload4 (d : Byte) : Statement (.wrPayload4 d) :=
  fun _ => covers_addr_row true 0x04#5 d (Instr.wrPayload4 d).tableRow rfl rfl

theorem wrPayload5 (d : Byte) : Statement (.wrPayload5 d) :=
  fun _ => covers_addr_row true 0x05#5 d (Instr.wrPayload5 d).tableRow rfl rfl

theorem wrPayload6 (d : Byte) : Statement (.wrPayload6 d) :=
  fun _ => covers_addr_row true 0x06#5 d (Instr.wrPayload6 d).tableRow rfl rfl

theorem wrCtrl (d : Byte) : Statement (.wrCtrl d) :=
  fun _ => covers_addr_row true 0x08#5 d (Instr.wrCtrl d).tableRow rfl rfl

theorem wrRoStatus (d : Byte) : Statement (.wrRoStatus d) :=
  fun _ => covers_addr_row true 0x09#5 d (Instr.wrRoStatus d).tableRow rfl rfl

theorem wrCrc (d : Byte) : Statement (.wrCrc d) :=
  fun _ => covers_addr_row true 0x0A#5 d (Instr.wrCrc d).tableRow rfl rfl

theorem cmdNop : Statement .cmdNop := fun _ => by decide

theorem cmdProcess : Statement .cmdProcess := fun _ => by decide

theorem cmdCrcInit : Statement .cmdCrcInit := fun _ => by decide

theorem cmdClear : Statement .cmdClear := fun _ => by decide

theorem cmdRsvd04 (d : Byte) : Statement (.cmdRsvd04 d) := fun h =>
  covers_code_row d 0xFC#8 0x04#8 _ rfl rfl (by revert d; decide)

theorem cmdRsvd08 (d : Byte) : Statement (.cmdRsvd08 d) := fun h =>
  covers_code_row d 0xF8#8 0x08#8 _ rfl rfl (by revert d; decide)

theorem cmdRsvd10 (d : Byte) : Statement (.cmdRsvd10 d) := fun h =>
  covers_code_row d 0xF0#8 0x10#8 _ rfl rfl (by revert d; decide)

theorem cmdRsvd20 (d : Byte) : Statement (.cmdRsvd20 d) := fun h =>
  covers_code_row d 0xE0#8 0x20#8 _ rfl rfl (by revert d; decide)

theorem cmdRsvd40 (d : Byte) : Statement (.cmdRsvd40 d) := fun h =>
  covers_code_row d 0xC0#8 0x40#8 _ rfl rfl (by revert d; decide)

theorem cmdRsvd80 (d : Byte) : Statement (.cmdRsvd80 d) := fun h =>
  covers_code_row d 0x80#8 0x80#8 _ rfl rfl (by revert d; decide)

theorem wrRoHum0 (d : Byte) : Statement (.wrRoHum0 d) :=
  fun _ => covers_addr_row true 0x0C#5 d (Instr.wrRoHum0 d).tableRow rfl rfl

theorem wrRoHum1 (d : Byte) : Statement (.wrRoHum1 d) :=
  fun _ => covers_addr_row true 0x0D#5 d (Instr.wrRoHum1 d).tableRow rfl rfl

theorem wrRoHum2 (d : Byte) : Statement (.wrRoHum2 d) :=
  fun _ => covers_addr_row true 0x0E#5 d (Instr.wrRoHum2 d).tableRow rfl rfl

theorem wrRoTemp0 (d : Byte) : Statement (.wrRoTemp0 d) :=
  fun _ => covers_addr_row true 0x10#5 d (Instr.wrRoTemp0 d).tableRow rfl rfl

theorem wrRoTemp1 (d : Byte) : Statement (.wrRoTemp1 d) :=
  fun _ => covers_addr_row true 0x11#5 d (Instr.wrRoTemp1 d).tableRow rfl rfl

theorem wrRoTemp2 (d : Byte) : Statement (.wrRoTemp2 d) :=
  fun _ => covers_addr_row true 0x12#5 d (Instr.wrRoTemp2 d).tableRow rfl rfl

theorem wrRsvd07 (d : Byte) : Statement (.wrRsvd07 d) :=
  fun _ => covers_addr_row true 0x07#5 d (Instr.wrRsvd07 d).tableRow rfl rfl

theorem wrRsvd0F (d : Byte) : Statement (.wrRsvd0F d) :=
  fun _ => covers_addr_row true 0x0F#5 d (Instr.wrRsvd0F d).tableRow rfl rfl

theorem wrRsvd13 (d : Byte) : Statement (.wrRsvd13 d) :=
  fun _ => covers_addr_row true 0x13#5 d (Instr.wrRsvd13 d).tableRow rfl rfl

theorem wrRsvd14 (a : RegAddr) (d : Byte) : Statement (.wrRsvd14 a d) := fun h =>
  covers_range_row true a 0x1C#5 0x14#5 _ _ rfl rfl (inRow14 a h)

theorem wrRsvd18 (a : RegAddr) (d : Byte) : Statement (.wrRsvd18 a d) := fun h =>
  covers_range_row true a 0x18#5 0x18#5 _ _ rfl rfl (inRow18 a h)

end Sys2Proof.Laws.EncodesIntoRow
end

