-- ==== Sys2Proof/Laws/Process.lean ====
section
/-! SUPPORT. What PROCESS leaves in each element of the block, said once. -/

namespace Sys2Proof.Machine

/-- RESULT and the codes are all that recording an outcome writes. -/
theorem recordOutcome_eq (b : Block) : ∃ r h t, b.recordOutcome = b.setOutcome r h t := by
  rcases recordOutcome_cases b with ⟨_, h⟩ | ⟨r, _, _, h⟩
  · exact ⟨_, _, _, h⟩
  · exact ⟨_, _, _, h⟩

@[simp] theorem Block.process_payload (b : Block) : b.process.payload = b.payload := by
  obtain ⟨r, h, t, e⟩ := recordOutcome_eq b
  simp [Block.process, e]

@[simp] theorem Block.process_variant (b : Block) : b.process.variant = b.variant := by
  obtain ⟨r, h, t, e⟩ := recordOutcome_eq b
  simp [Block.process, e]

@[simp] theorem Block.process_illegal (b : Block) : b.process.illegal = b.illegal := by
  obtain ⟨r, h, t, e⟩ := recordOutcome_eq b
  simp [Block.process, e]

@[simp] theorem Block.process_crcAcc (b : Block) : b.process.crcAcc = b.payload.crc := rfl

@[simp] theorem Block.process_result (b : Block) :
    b.process.result = processResult b.variant b.payload := by
  rcases recordOutcome_cases b with ⟨hr, h⟩ | ⟨r, _, hr, h⟩
  · simp [Block.process, h, hr]
  · simp [Block.process, h, hr]

/-- The humidity code: the payload's when the outcome is OK, 0 otherwise. -/
theorem Block.process_humRaw (b : Block) :
    b.process.humRaw = if processResult b.variant b.payload = .ok then b.payload.humRaw else 0 := by
  rcases recordOutcome_cases b with ⟨hr, h⟩ | ⟨r, hne, hr, h⟩
  · simp [Block.process, h, hr]
  · subst hr
    simp [Block.process, h, hne]

/-- The temperature code, likewise. -/
theorem Block.process_tempRaw (b : Block) :
    b.process.tempRaw = if processResult b.variant b.payload = .ok then b.payload.tempRaw else 0 := by
  rcases recordOutcome_cases b with ⟨hr, h⟩ | ⟨r, hne, hr, h⟩
  · simp [Block.process, h, hr]
  · subst hr
    simp [Block.process, h, hne]

/-- PROCESS repeated with no write between leaves the same block. -/
@[simp] theorem Block.process_process (b : Block) : b.process.process = b.process := by
  have key : ∀ x y : Block, x.payload = y.payload → x.variant = y.variant → x.crcAcc = y.crcAcc →
      x.result = y.result → x.illegal = y.illegal → x.humRaw = y.humRaw → x.tempRaw = y.tempRaw →
      x = y := by
    rintro ⟨⟩ ⟨⟩
    simp_all
  apply key <;> simp [Block.process_humRaw, Block.process_tempRaw]

/-- The outcome is TIMEOUT exactly for a busy payload. -/
theorem processResult_timeout {v : SensorVariant} {p : Payload} :
    processResult v p = .timeout ↔ p.busy = true := by
  unfold processResult
  split <;> [simp_all; (split <;> simp_all)]

/-- The outcome is never NONE. -/
theorem processResult_ne_none {v : SensorVariant} {p : Payload} : processResult v p ≠ .none := by
  unfold processResult
  split <;> [simp; (split <;> simp)]

/-- Reading a sequence in two parts: the CRC is a left fold (42_crc.md R121). -/
theorem crc8_append (init : Byte) (xs ys : List Byte) :
    crc8 init (xs ++ ys) = crc8 (crc8 init xs) ys := by
  induction xs generalizing init with
  | nil => rfl
  | cons x xs ih => exact ih (crc8Update init x)

end Sys2Proof.Machine
end

