-- ==== Sys2Proof/Laws/Runs.lean ====
section
/-! SUPPORT. Runs, one step at a time. -/

namespace Sys2Proof.Machine

/-- A run whose first step answers `t` goes on from `t`. -/
theorem run_of_step {M : Host.Core} {k : Nat} {s t : M.State} (h : M.step s = .next t) :
    M.run (k + 1) s = M.run k t := by
  simp only [Host.Core.run, h]

/-- The empty run changes nothing but the host's stream, which it empties. -/
theorem runCycles_nil (s : State) : runCycles [] s = .next { s with pending := [] } := rfl

/-- A cycle that answers `t` is the first step of the runs that begin with it. -/
theorem runCycles_cons {c : HostCycle} {cs : List HostCycle} {s t : State}
    (h : busCycle c { s with pending := cs } = .next t) :
    runCycles (c :: cs) s = Host.Core.run Sys2Proof.core cs.length t :=
  run_of_step (M := Sys2Proof.core) ((step_of_pending rfl).trans h)

end Sys2Proof.Machine
end

