-- ==== Sys2Proof/Tests/Slice0.lean ====
section
/-! SUPPORT. Tests. Every expected value is the spec's: its encodings (30_encoding.md), its examples, and
the tables of 95_test_vectors.md, named at each test. Below them, a witness for the hypotheses of each
statement. -/

namespace Sys2Proof.Tests

open Sys2Proof.Machine

/-! ## Well-formedness: for each check a term it refuses, just outside its row -/

theorem test_illFormed_reads :
    (Instr.rdRsvd14 0x13#5).wellFormed = false ∧ (Instr.rdRsvd14 0x18#5).wellFormed = false ∧
    (Instr.rdRsvd18 0x17#5).wellFormed = false := by decide

theorem test_illFormed_writes :
    (Instr.wrRsvd14 0x18#5 0x00#8).wellFormed = false ∧
    (Instr.wrRsvd18 0x0B#5 0x00#8).wellFormed = false := by decide

theorem test_illFormed_codes :
    (Instr.cmdRsvd04 0x03#8).wellFormed = false ∧ (Instr.cmdRsvd08 0x10#8).wellFormed = false ∧
    (Instr.cmdRsvd10 0x0F#8).wellFormed = false ∧ (Instr.cmdRsvd20 0x40#8).wellFormed = false ∧
    (Instr.cmdRsvd40 0x3F#8).wellFormed = false ∧ (Instr.cmdRsvd80 0x7F#8).wellFormed = false := by
  decide

/-! ## Decoding: every constructor, from its word written out as W, A, D (R61, R63, R65) -/

theorem test_decode_payload_reads :
    decode 0b00000000000000#14 = .rdPayload0 ∧ decode 0b00000100000000#14 = .rdPayload1 ∧
    decode 0b00001000000000#14 = .rdPayload2 ∧ decode 0b00001111111111#14 = .rdPayload3 ∧
    decode 0b00010000000000#14 = .rdPayload4 ∧ decode 0b00010100000000#14 = .rdPayload5 ∧
    decode 0b00011000000000#14 = .rdPayload6 := by decide

theorem test_decode_register_reads :
    decode 0b00100000000000#14 = .rdCtrl ∧ decode 0b00100100000000#14 = .rdStatus ∧
    decode 0b00101000000000#14 = .rdCrc ∧ decode 0b00101100000000#14 = .rdCmd ∧
    decode 0b00110000000000#14 = .rdHum0 ∧ decode 0b00110100000000#14 = .rdHum1 ∧
    decode 0b00111000000000#14 = .rdHum2 ∧ decode 0b01000000000000#14 = .rdTemp0 ∧
    decode 0b01000100000000#14 = .rdTemp1 ∧ decode 0b01001000000000#14 = .rdTemp2 := by decide

theorem test_decode_reserved_reads :
    decode 0b00011100000000#14 = .rdRsvd07 ∧ decode 0b00111100000000#14 = .rdRsvd0F ∧
    decode 0b01001100000000#14 = .rdRsvd13 ∧ decode 0b01010000000000#14 = .rdRsvd14 0x14#5 ∧
    decode 0b01011100000000#14 = .rdRsvd14 0x17#5 ∧ decode 0b01100000000000#14 = .rdRsvd18 0x18#5 ∧
    decode 0b01111111111111#14 = .rdRsvd18 0x1F#5 := by decide

theorem test_decode_payload_writes :
    decode 0b10000000001000#14 = .wrPayload0 0x08#8 ∧ decode 0b10000101110011#14 = .wrPayload1 0x73#8 ∧
    decode 0b10001000110011#14 = .wrPayload2 0x33#8 ∧ decode 0b10001101011010#14 = .wrPayload3 0x5A#8 ∧
    decode 0b10010000000001#14 = .wrPayload4 0x01#8 ∧ decode 0b10010110000000#14 = .wrPayload5 0x80#8 ∧
    decode 0b10011000011101#14 = .wrPayload6 0x1D#8 := by decide

theorem test_decode_register_writes :
    decode 0b10100000000011#14 = .wrCtrl 0x03#8 ∧ decode 0b10100100000000#14 = .wrRoStatus 0x00#8 ∧
    decode 0b10101000110001#14 = .wrCrc 0x31#8 ∧ decode 0b10110011111111#14 = .wrRoHum0 0xFF#8 ∧
    decode 0b10110100000001#14 = .wrRoHum1 0x01#8 ∧ decode 0b10111000000010#14 = .wrRoHum2 0x02#8 ∧
    decode 0b11000000000011#14 = .wrRoTemp0 0x03#8 ∧ decode 0b11000100000100#14 = .wrRoTemp1 0x04#8 ∧
    decode 0b11001000000101#14 = .wrRoTemp2 0x05#8 := by decide

theorem test_decode_commands :
    decode 0b10101100000000#14 = .cmdNop ∧ decode 0b10101100000001#14 = .cmdProcess ∧
    decode 0b10101100000010#14 = .cmdCrcInit ∧ decode 0b10101100000011#14 = .cmdClear ∧
    decode 0b10101100000100#14 = .cmdRsvd04 0x04#8 ∧ decode 0b10101100001111#14 = .cmdRsvd08 0x0F#8 ∧
    decode 0b10101100010000#14 = .cmdRsvd10 0x10#8 ∧ decode 0b10101100111111#14 = .cmdRsvd20 0x3F#8 ∧
    decode 0b10101101000000#14 = .cmdRsvd40 0x40#8 ∧ decode 0b10101110101100#14 = .cmdRsvd80 0xAC#8 := by
  decide

theorem test_decode_reserved_writes :
    decode 0b10011110101010#14 = .wrRsvd07 0xAA#8 ∧ decode 0b10111100000001#14 = .wrRsvd0F 0x01#8 ∧
    decode 0b11001100000010#14 = .wrRsvd13 0x02#8 ∧
    decode 0b11010100000011#14 = .wrRsvd14 0x15#5 0x03#8 ∧
    decode 0b11111111111111#14 = .wrRsvd18 0x1F#5 0xFF#8 := by decide

/-- The host's two readings of a row's bits agree with the decoder; a 15th bit is no word (log 5). -/
theorem test_table_words :
    decodeTableWord 16 0x2B01 = some .cmdProcess ∧ decodeTableWord 16 0x4000 = none ∧
    decodeTableWord 16 0x1F00 = some (.rdRsvd18 0x1F#5) := by decide

/-! ## The CRC-8 function (tables T1, T2) -/

theorem test_crc_table_row0 :
    [0x00#8, 0x01#8, 0x02#8, 0x03#8, 0x04#8, 0x05#8, 0x06#8, 0x07#8].map (crc8Update 0x00#8) =
    [0x00#8, 0x31#8, 0x62#8, 0x53#8, 0xC4#8, 0xF5#8, 0xA6#8, 0x97#8] := by decide +kernel

theorem test_crc_table_rowF :
    [0xF0#8, 0xF1#8, 0xF8#8, 0xFC#8, 0xFD#8, 0xFE#8, 0xFF#8].map (crc8Update 0x00#8) =
    [0x82#8, 0xB3#8, 0x3B#8, 0xFF#8, 0xCE#8, 0x9D#8, 0xAC#8] := by decide +kernel

/-- C-09, C-13, C-17, C-18. -/
theorem test_crc_sequences :
    crc8 0xFF#8 [0x31#8, 0x32#8, 0x33#8, 0x34#8, 0x35#8, 0x36#8, 0x37#8, 0x38#8, 0x39#8] = 0xF7#8 ∧
    crc8 0xFF#8 [0x08#8, 0x73#8, 0x33#8, 0x36#8, 0x00#8, 0x00#8] = 0x1D#8 ∧
    crc8 0x1D#8 [0x00#8] = 0x0F#8 ∧ crc8 0xAC#8 [0x31#8] = 0x75#8 := by decide +kernel

/-! ## The field decode (table T3) -/

/-- F-02, F-06, F-07, F-10. -/
theorem test_fields :
    (⟨0, 0x12, 0x34, 0x56, 0x78, 0x9A, 0⟩ : Payload).humRaw = 0x12345#20 ∧
    (⟨0, 0x12, 0x34, 0x56, 0x78, 0x9A, 0⟩ : Payload).tempRaw = 0x6789A#20 ∧
    (⟨0, 0, 0, 0xF0, 0, 0, 0⟩ : Payload).humRaw = 0x0000F#20 ∧
    (⟨0, 0, 0, 0x0F, 0, 0, 0⟩ : Payload).tempRaw = 0xF0000#20 ∧
    (⟨0, 0, 0, 0x0F, 0xFF, 0xFF, 0⟩ : Payload).humRaw = 0x00000#20 := by decide +kernel

/-! ## One transaction (tables T5, T6) -/

/-- A machine with this block and nothing pending. -/
def machineOf (b : Block) : State := ⟨b, 0x00#8, [], []⟩

/-- The block and rdata after the transaction `w`, if the step answers a next state. -/
def afterWord (w : TWord) (b : Block) : Option (Block × Byte) :=
  match step ((machineOf b).present (HostCycle.ofWord w)) with
  | .next t => some (t.block, t.rdata)
  | .fault _ => none
  | .refused _ => none

/-- What the read `w` returns. -/
def readsAs (w : TWord) (b : Block) : Option Byte := (afterWord w b).map Prod.snd

/-- The block the transaction `w` leaves. -/
def leaves (w : TWord) (b : Block) : Option Block := (afterWord w b).map Prod.fst

/-- The block holding a payload under a variant, before any PROCESS. -/
def loaded (p : Payload) (v : SensorVariant) : Block := { Block.reset with payload := p, variant := v }

/-- The payload of PR-01. -/
def payload01 : Payload := ⟨0x08#8, 0x73#8, 0x33#8, 0x36#8, 0x00#8, 0x00#8, 0x1D#8⟩

/-- The state "after PR-01" of table T6, written out from table T5. -/
def after01 : Block := ⟨payload01, .aht2x, 0x1D#8, .ok, false, 0x73333#20, 0x60000#20⟩

/-- A-01, A-02, A-03, A-08. -/
theorem test_reads_after_reset :
    readsAs 0x0800#14 Block.reset = some 0x01#8 ∧ readsAs 0x0900#14 Block.reset = some 0x00#8 ∧
    readsAs 0x0A00#14 Block.reset = some 0xFF#8 ∧ readsAs 0x03FF#14 Block.reset = some 0x00#8 := by
  decide +kernel

/-- A-09 to A-14, A-17. -/
theorem test_result_reads :
    readsAs 0x0C00#14 after01 = some 0x33#8 ∧ readsAs 0x0D00#14 after01 = some 0x33#8 ∧
    readsAs 0x0E00#14 after01 = some 0x07#8 ∧ readsAs 0x1000#14 after01 = some 0x00#8 ∧
    readsAs 0x1100#14 after01 = some 0x00#8 ∧ readsAs 0x1200#14 after01 = some 0x06#8 ∧
    readsAs 0x0B00#14 after01 = some 0x00#8 := by decide +kernel

/-- R80: each payload byte is read at its own address. -/
theorem test_payload_reads :
    [0x0000#14, 0x0100#14, 0x0200#14, 0x0300#14, 0x0400#14, 0x0500#14, 0x0600#14].map
      (fun w => readsAs w (loaded ⟨1, 2, 3, 4, 5, 6, 7⟩ .aht1x)) =
    [some 1, some 2, some 3, some 4, some 5, some 6, some 7] := by decide +kernel

/-- R81: each payload byte is written at its own address (A-06 among them). -/
theorem test_payload_writes :
    [0x2011#14, 0x2122#14, 0x2233#14, 0x235A#14, 0x2444#14, 0x2555#14, 0x2666#14].map
      (fun w => (leaves w Block.reset).map Block.payload) =
    [some ⟨0x11, 0, 0, 0, 0, 0, 0⟩, some ⟨0, 0x22, 0, 0, 0, 0, 0⟩, some ⟨0, 0, 0x33, 0, 0, 0, 0⟩,
     some ⟨0, 0, 0, 0x5A, 0, 0, 0⟩, some ⟨0, 0, 0, 0, 0x44, 0, 0⟩, some ⟨0, 0, 0, 0, 0, 0x55, 0⟩,
     some ⟨0, 0, 0, 0, 0, 0, 0x66⟩] := by decide +kernel

/-- A-04, A-05. -/
theorem test_ctrl_writes :
    leaves 0x28FE#14 Block.reset = some { Block.reset with variant := .aht1x } ∧
    leaves 0x2803#14 { Block.reset with variant := .aht1x } = some Block.reset := by decide +kernel

/-- A-30 and the STATUS values below table T6. -/
theorem test_status_values :
    readsAs 0x0900#14 { after01 with illegal := true } = some 0x0D#8 ∧
    readsAs 0x0900#14 { Block.reset with result := .timeout } = some 0x02#8 ∧
    readsAs 0x0900#14 { Block.reset with result := .badcrc, illegal := true } = some 0x0B#8 := by
  decide +kernel

/-- A-15, A-16, A-20, A-21, A-26: no state change. -/
theorem test_ignored_writes :
    leaves 0x2CFF#14 after01 = some after01 ∧ leaves 0x2900#14 after01 = some after01 ∧
    leaves 0x27AA#14 Block.reset = some Block.reset ∧ leaves 0x3FFF#14 Block.reset = some Block.reset ∧
    leaves 0x2B00#14 after01 = some after01 := by decide +kernel

/-- A-18, A-19. -/
theorem test_reserved_reads :
    readsAs 0x0700#14 after01 = some 0x00#8 ∧ readsAs 0x1F00#14 after01 = some 0x00#8 := by
  decide +kernel

/-- A-22 to A-25. -/
theorem test_crc_engine :
    leaves 0x2A00#14 Block.reset = some { Block.reset with crcAcc := 0xAC#8 } ∧
    leaves 0x2AFF#14 Block.reset = some { Block.reset with crcAcc := 0x00#8 } ∧
    leaves 0x2B02#14 { Block.reset with crcAcc := 0x37#8 } = some Block.reset := by decide +kernel

/-- A-27. -/
theorem test_clear :
    leaves 0x2B03#14 { after01 with illegal := true } =
      some { after01 with result := .none, humRaw := 0, tempRaw := 0 } := by decide +kernel

/-- A-28, A-29. -/
theorem test_reserved_commands :
    leaves 0x2B04#14 after01 = some { after01 with illegal := true } ∧
    leaves 0x2BFF#14 after01 = some { after01 with illegal := true } := by decide +kernel

/-- PR-01, PR-03, PR-04. -/
theorem test_process_crc_check :
    leaves 0x2B01#14 (loaded payload01 .aht2x) = some after01 ∧
    leaves 0x2B01#14 (loaded { payload01 with p6 := 0x1C#8 } .aht2x) =
      some ⟨{ payload01 with p6 := 0x1C#8 }, .aht2x, 0x1D#8, .badcrc, false, 0, 0⟩ ∧
    leaves 0x2B01#14 (loaded { payload01 with p6 := 0x1C#8 } .aht1x) =
      some ⟨{ payload01 with p6 := 0x1C#8 }, .aht1x, 0x1D#8, .ok, false, 0x73333#20, 0x60000#20⟩ := by
  decide +kernel

/-- PR-06, PR-09, PR-10: the busy bit is 0x40 and wins over a wrong CRC. -/
theorem test_process_busy_check :
    leaves 0x2B01#14 (loaded { payload01 with p0 := 0x48#8 } .aht2x) =
      some ⟨{ payload01 with p0 := 0x48#8 }, .aht2x, 0x6B#8, .timeout, false, 0, 0⟩ ∧
    (leaves 0x2B01#14 (loaded { payload01 with p0 := 0x80#8, p6 := 0x2B#8 } .aht2x)).map Block.result =
      some .ok ∧
    (leaves 0x2B01#14 (loaded { payload01 with p0 := 0xBF#8, p6 := 0xDB#8 } .aht2x)).map Block.result =
      some .ok := by decide +kernel

/-! ## Reset, an idle cycle, the end of the host's stream -/

/-- R180: reset from the state after PR-01. -/
theorem test_reset_cycle :
    (match step ((machineOf after01).present ⟨false, true, true, 0x00#5, 0xFF#8⟩) with
      | .next t => some t.block
      | _ => none) = some Block.reset := by decide +kernel

/-- The row of a `rd.status` placed by `withFetchWord` runs as the very next step. -/
theorem test_withFetchWord :
    (match step ((machineOf after01).withFetchWord 16 0x0900) with
      | .next t => some (t.rdata, t.observed, t.pending)
      | _ => none) = some (0x05#8, [0x05#8], []) := by decide +kernel

/-! ## Units (table T4) -/

theorem test_humidity_of_45 : humidity 0x73333#20 = 11796475 / 262144 := by norm_num [humidity]

theorem test_temperature_of_12345 : temperature 0x12345#20 = -4689475 / 131072 := by
  norm_num [temperature]

/-- Bit patterns of table T4 read as the numbers its exact columns give: 25.0 and -50.0. -/
theorem test_binary32_values :
    binary32Value 0x41C80000#32 = some 25 ∧ binary32Value 0xC2480000#32 = some (-50) := by
  decide +kernel

/-! ## Witnesses: the hypotheses of each statement can be met together -/

/-- One write of PAYLOAD0. -/
def writeCycle : HostCycle := HostCycle.memWrite 0x00#5 0x08#8

/-- A machine about to run one cycle. -/
def pendingOn (b : Block) (c : HostCycle) : State := (machineOf b).present c

theorem witness_wellFormed_boundaries :
    (Instr.cmdRsvd04 0x04#8).wellFormed = true ∧ (Instr.cmdRsvd80 0xFF#8).wellFormed = true ∧
    (Instr.wrRsvd14 0x17#5 0x00#8).wellFormed = true ∧ (Instr.rdRsvd18 0x1F#5).wellFormed = true := by
  decide

/-- StepRunsTheDecodedInstruction, TransactionsFollowTheRegisterMap: a read and a write. -/
theorem witness_transactions :
    (pendingOn after01 writeCycle).pending = [writeCycle] ∧ writeCycle.rstN = true ∧
    writeCycle.sel = true ∧ writeCycle.we = true ∧
    (HostCycle.memRead 0x09#5).rstN = true ∧ (HostCycle.memRead 0x09#5).sel = true ∧
    (HostCycle.memRead 0x09#5).we = false := by decide

/-- ResetCycleSetsTheResetState, IdleCyclesKeepTheBlock. -/
theorem witness_reset_and_idle :
    (pendingOn after01 HostCycle.resetCycle).pending = [HostCycle.resetCycle] ∧
    HostCycle.resetCycle.rstN = false ∧
    (pendingOn after01 HostCycle.idle).pending = [HostCycle.idle] ∧ HostCycle.idle.rstN = true ∧
    HostCycle.idle.sel = false ∧ (machineOf after01).pending = [] := by decide

/-- ExecAgreesWithTheRegisterMap: one of each kind. -/
theorem witness_exec_agrees :
    Instr.rdStatus.wellFormed = true ∧ (Instr.wrCrc 0x31#8).wellFormed = true ∧
    Instr.cmdProcess.wellFormed = true := by decide

/-- EveryStepKeepsConsistency: a step from a consistent state to one whose outcome is OK. -/
theorem witness_consistency :
    (loaded payload01 .aht2x).Consistent ∧
    step (pendingOn (loaded payload01 .aht2x) (HostCycle.ofWord 0x2B01#14)) =
      .next ((machineOf (loaded payload01 .aht2x)).committed (loaded payload01 .aht2x).process) ∧
    (loaded payload01 .aht2x).process.result = .ok :=
  ⟨fun _ => ⟨rfl, rfl⟩, rfl, by decide +kernel⟩

/-- ResultsAreSnapshots, SplitReadsAreConsistent: cycles of every harmless kind. -/
theorem witness_harmless_cycles :
    ∀ c ∈ [writeCycle, HostCycle.memRead 0x0D#5, HostCycle.memWrite 0x08#5 0x00#8,
        HostCycle.memWrite 0x0A#5 0x31#8, HostCycle.memWrite 0x0B#5 0xAC#8, HostCycle.idle],
      c.setsResults = false := by decide

/-- IllegalIsSticky, CrcAccWriters, PayloadAndVariantWriters. -/
theorem witness_writers :
    (pendingOn after01 (HostCycle.memWrite 0x0B#5 0x04#8)).pending =
      [HostCycle.memWrite 0x0B#5 0x04#8] ∧
    step (pendingOn after01 (HostCycle.memWrite 0x0B#5 0x04#8)) =
      .next ((machineOf after01).committed { after01 with illegal := true }) ∧
    (HostCycle.memWrite 0x0B#5 0x04#8).setsPayload = false ∧
    (HostCycle.memWrite 0x0B#5 0x04#8).setsVariant = false :=
  ⟨rfl, rfl, by decide, by decide⟩

/-- WritesAreIdempotentButForTheCrc. -/
theorem witness_idempotent_write :
    (Instr.wrRsvd14 0x14#5 0xFF#8).wellFormed = true ∧ (Instr.wrRsvd14 0x14#5 0xFF#8).isWrite = true ∧
    (Instr.wrRsvd14 0x14#5 0xFF#8).addr ≠ 0x0A#5 := by decide

/-- ResultReads: byte 2 of each code, and the clause on outcomes other than OK. -/
theorem witness_result_reads :
    (Instr.rdHum2, 7) ∈ [(Instr.rdHum0, after01.humRaw.toNat % 256),
      (.rdHum2, after01.humRaw.toNat / 65536), (.rdTemp2, after01.tempRaw.toNat / 65536)] ∧
    Instr.rdHum2 ∈ [Instr.rdHum2, .rdTemp2] ∧
    Block.reset.Consistent ∧ Block.reset.result ≠ .ok := by decide +kernel

/-- ReadOnlyWritesChangeNothing, ReservedReadsReturnZero, ReservedWritesChangeNothing,
ReservedCommandsSetIllegal: the lists hold every constructor they are about. -/
theorem witness_listed :
    Instr.wrRoTemp2 0x01#8 ∈ [Instr.wrRoStatus 0x01#8, .wrRoTemp2 0x01#8] ∧
    Instr.rdRsvd18 0x1F#5 ∈ [Instr.rdRsvd07, .rdRsvd18 0x1F#5] ∧
    Instr.wrRsvd14 0x14#5 0x01#8 ∈ [Instr.wrRsvd07 0x01#8, .wrRsvd14 0x14#5 0x01#8] ∧
    Instr.cmdRsvd80 0x80#8 ∈ [Instr.cmdRsvd04 0x80#8, .cmdRsvd80 0x80#8] := by decide

/-- ProcessOutcomes, VariantGatesTheCrcCheck, DriverReportsTheOutcome: each outcome's case. -/
theorem witness_process_cases :
    ({ payload01 with p0 := 0x48#8 } : Payload).p0.getLsbD 6 = true ∧
    ({ payload01 with p0 := 0x48#8 } : Payload).busy = true ∧
    payload01.p0.getLsbD 6 = false ∧ payload01.busy = false ∧ payload01.crcOk = true ∧
    ({ payload01 with p6 := 0x1C#8 } : Payload).busy = false ∧
    ({ payload01 with p6 := 0x1C#8 } : Payload).crcOk = false ∧
    crc8 0xFF#8 [0x08#8, 0x73#8, 0x33#8, 0x36#8, 0x00#8, 0x00#8] ≠ 0x1C#8 ∧
    (loaded payload01 .aht2x).variant = .aht2x ∧ (loaded payload01 .aht1x).variant = .aht1x := by
  decide +kernel

/-- PayloadWrites' other bytes, ChangedByteIsNeverAccepted, CrcProperties: bytes 0, 5 and 6. -/
theorem witness_changed_bytes :
    (loaded payload01 .aht2x).payload.crcOk = true ∧ (0x09#8) ≠ payload01.get 0 ∧
    (0x01#8) ≠ payload01.get 5 ∧ (0x1C#8) ≠ payload01.get 6 ∧ (5 : Fin 7).val < 6 ∧
    (5 : Fin 7) ≠ 6 := by decide +kernel

/-- EveryPairOfCodesDecodes: PR-01's payload is the packing of its codes. -/
theorem witness_sealed_payload :
    (0x08#8).getLsbD 6 = false ∧ payload01 = Payload.seal 0x08#8 0x73333#20 0x60000#20 := by
  decide +kernel

/-- EncodeProcessRoundTrip: 45.0 %RH and 25.0 °C (S2), where the clamp does not act. -/
theorem witness_round_trip :
    IsNearest (humTarget 45) 471859 ∧ IsNearest (tempTarget 25) 393216 ∧
    payload01 = Payload.seal 0x08#8 (clampCode 471859) (clampCode 393216) := by
  refine ⟨?_, ?_, by decide +kernel⟩ <;> norm_num [IsNearest, humTarget, tempTarget, abs_le]

/-- The same at the boundary code 0xFFFFF, the last where the clamp does not act. -/
theorem witness_round_trip_top_code :
    (1048575 * 100 / 1048576 : Rat) < 100 ∧ IsNearest (humTarget (1048575 * 100 / 1048576)) 0xFFFFF ∧
    (1048575 * 200 / 1048576 - 50 : Rat) < 150 ∧
    IsNearest (tempTarget (1048575 * 200 / 1048576 - 50)) 0xFFFFF ∧ clampCode 0xFFFFF = 0xFFFFF#20 := by
  refine ⟨?_, ?_, ?_, ?_, by decide +kernel⟩ <;> norm_num [IsNearest, humTarget, tempTarget]

/-- The same at the top of both ranges, where it does. -/
theorem witness_round_trip_clamped :
    (99.99999 : Rat) < 100 ∧ IsNearest (humTarget 99.99999) 1048576 ∧ (149.99999 : Rat) < 150 ∧
    IsNearest (tempTarget 149.99999) 1048576 := by
  norm_num [IsNearest, humTarget, tempTarget, abs_le]

/-- DriverReportsTheOutcome: table T4's bit patterns are accurate at the code of 37.5 %RH and 25 °C. -/
theorem witness_accurate : AccurateAt (fun _ => (0x42160000#32, 0x41C80000#32)) 0x60000#20 := by
  refine ⟨⟨75 / 2, by decide +kernel, ?_⟩, ⟨25, by decide +kernel, ?_⟩⟩ <;>
    norm_num [humidity, temperature]

end Sys2Proof.Tests
end

section
/-! SUPPORT. PROCESS in the two forms the model gives it: the codes as numbers (41_process.md R103,
R104), and the pseudocode of R106 against `Block.process`. -/

namespace Sys2Proof.Machine

theorem toNat_append_byte {n : Nat} (x : BitVec n) (b : Byte) :
    (x ++ b).toNat = x.toNat * 256 + b.toNat := by
  rw [BitVec.toNat_append, ← Nat.shiftLeft_add_eq_or_of_lt b.isLt, Nat.shiftLeft_eq]

/-- The shifted bytes do not overlap, so their OR puts them side by side. -/
theorem joinBytes_eq_append (a b c : Byte) : joinBytes a b c = a ++ b ++ c := by
  apply BitVec.eq_of_getLsbD_eq
  intro i hi
  simp only [joinBytes, BitVec.getLsbD_or, BitVec.getLsbD_shiftLeft, BitVec.getLsbD_setWidth,
    BitVec.getLsbD_append]
  grind

theorem joinBytes_toNat (a b c : Byte) :
    (joinBytes a b c).toNat = a.toNat * 65536 + b.toNat * 256 + c.toNat := by
  rw [joinBytes_eq_append, toNat_append_byte, toNat_append_byte]
  omega

theorem Payload.humRaw_toNat (p : Payload) :
    p.humRaw.toNat = p.p1.toNat * 4096 + p.p2.toNat * 16 + p.p3.toNat / 16 := by
  have h1 := p.p1.isLt
  have h2 := p.p2.isLt
  have h3 := p.p3.isLt
  simp only [Payload.humRaw, BitVec.toNat_setWidth, BitVec.toNat_ushiftRight, joinBytes_toNat,
    Nat.shiftRight_eq_div_pow]
  omega

theorem Payload.tempRaw_toNat (p : Payload) :
    p.tempRaw.toNat = p.p3.toNat % 16 * 65536 + p.p4.toNat * 256 + p.p5.toNat := by
  have h4 := p.p4.isLt
  have h5 := p.p5.isLt
  have hm : codeMask.toNat = 2 ^ 20 - 1 := rfl
  simp only [Payload.tempRaw, BitVec.toNat_setWidth, BitVec.toNat_and, joinBytes_toNat, hm,
    Nat.and_two_pow_sub_one_eq_mod]
  omega

/-- The busy mask selects bit 6 of P0. -/
theorem Payload.busy_eq_getLsbD (p : Payload) : p.busy = p.p0.getLsbD 6 :=
  (by decide : ∀ x : Byte, (x &&& busyMask != 0x00#8) = x.getLsbD 6) p.p0

theorem Payload.crcOk_eq_false {p : Payload} : p.crcOk = false ↔ p.crc ≠ p.p6 := by
  simp [Payload.crcOk]

/-- The pseudocode of R106, run assignment by assignment, is PROCESS: both go through the busy check,
then the CRC check, then the decode. -/
theorem Block.processInOrder_eq_process (b : Block) : b.processInOrder = b.process := by
  have hcrc : crc8 crcInit [b.payload.p0, b.payload.p1, b.payload.p2, b.payload.p3, b.payload.p4,
    b.payload.p5] = b.payload.crc := rfl
  simp only [Block.processInOrder, hcrc, ← Payload.busy_eq_getLsbD, ← Payload.humRaw_toNat,
    ← Payload.tempRaw_toNat, BitVec.ofNat_toNat, BitVec.setWidth_eq, ← Payload.crcOk_eq_false]
  unfold Block.process Block.recordOutcome processResult
  split_ifs <;> rfl

theorem Block.process_consistent (b : Block) : b.process.Consistent := by
  intro h
  rw [Block.process_result] at h
  simp [Block.process_humRaw, Block.process_tempRaw, h]

end Sys2Proof.Machine
end

section
/-! SUPPORT. The decoded instructions against the register map: what a read of each address answers, and
what a write to it leaves in the block (20_memory.md R43, 30_encoding.md R65). -/

namespace Sys2Proof.Machine

/-! ## The map's columns, where they are spelled otherwise than in the instructions' rules -/

theorem codeByte2_eq_append (c : Code20) :
    codeByte2 c = 0b0000#4 ++ BitVec.ofNat 4 (c.toNat >>> 16) := by
  rw [codeByte2, BitVec.setWidth_eq_append (by decide)]
  rfl

theorem SensorVariant.bit_setWidth (v : SensorVariant) :
    v.bit.setWidth 8 = 0b0000000#7 ++ v.bit := by
  cases v <;> rfl

theorem variantOfData_eq (d : Byte) :
    variantOfData d = if d &&& 1 = 1 then .aht2x else .aht1x := by
  revert d
  decide

theorem Block.status_eq_append (b : Block) :
    b.status = 0b0000#4 ++ BitVec.ofBool b.illegal ++ BitVec.ofBool (b.result == .ok) ++
      b.result.code := by
  unfold Block.status Block.valid
  cases b.illegal <;> cases b.result <;> rfl

/-- The addresses above TEMP's read 0x00 (R90). -/
theorem Block.readReg_above_map (b : Block) {a : RegAddr} (h : 0x13 < a.toNat) :
    b.readReg a = 0x00#8 := by
  unfold Block.readReg
  split
  case h_17 => rfl
  all_goals omega

/-- A write to an address above TEMP's is ignored (R91). -/
theorem Block.writeReg_above_map (b : Block) {a : RegAddr} (d : Byte) (h : 0x13 < a.toNat) :
    b.writeReg a d = b := by
  unfold Block.writeReg
  split
  case h_11 => rfl
  all_goals omega

/-- A reserved command code sets ILLEGAL (43_control_commands.md R142). -/
theorem Block.command_reserved (b : Block) {d : Byte} (h : 4 ≤ d.toNat) :
    b.command d = b.setIllegal true := by
  unfold Block.command
  split
  case h_5 => rfl
  all_goals omega

/-! ## Decode, then run -/

theorem exec_decodeRead (a : RegAddr) (s : State) :
    exec (decodeRead a) s = .next (s.answered (s.block.readReg a)) := by
  unfold decodeRead
  split
  case h_9 h => simp only [Block.readReg, h, ← SensorVariant.bit_setWidth]; rfl
  case h_10 h => simp only [Block.readReg, h, ← Block.status_eq_append]; rfl
  case h_15 h => simp only [Block.readReg, h, ← codeByte2_eq_append]; rfl
  case h_19 h => simp only [Block.readReg, h, ← codeByte2_eq_append]; rfl
  case h_21 =>
    have h : 0x13 < a.toNat := by grind
    rw [Block.readReg_above_map _ h]
    split_ifs <;> rfl
  all_goals
    rename_i h
    simp only [Block.readReg, h]
    rfl

theorem exec_decodeCommand (d : Byte) (s : State) :
    exec (decodeCommand d) s = .next (s.committed (s.block.command d)) := by
  unfold decodeCommand
  split
  case h_2 h => simp only [Block.command, h, Block.processInOrder_eq_process]; rfl
  case h_5 =>
    have h : 4 ≤ d.toNat := by grind
    rw [Block.command_reserved _ h]
    split_ifs <;> rfl
  all_goals
    rename_i h
    simp only [Block.command, h]
    rfl

theorem exec_decodeWrite (a : RegAddr) (d : Byte) (s : State) :
    exec (decodeWrite a d) s = .next (s.committed (s.block.writeReg a d)) := by
  unfold decodeWrite
  split
  case h_9 h => simp only [Block.writeReg, h, ← variantOfData_eq]; rfl
  case h_12 h => simp only [Block.writeReg, h, exec_decodeCommand]
  case h_21 =>
    have h : 0x13 < a.toNat := by grind
    rw [Block.writeReg_above_map _ _ h]
    split_ifs <;> rfl
  all_goals
    rename_i h
    simp only [Block.writeReg, h]
    rfl

end Sys2Proof.Machine
end

section
/-! SUPPORT. A step and a run by the register map: each cycle is `State.afterCycle`, a run is their left
fold (20_memory.md R41, R50). -/

namespace Sys2Proof.Machine

/-- One cycle, whatever the host drives, does what the register map gives for its pins. -/
theorem busCycle_eq_afterCycle (c : HostCycle) (s : State) :
    busCycle c s = .next (s.afterCycle c) := by
  rcases busCycle_cases c s with ⟨hr, h⟩ | ⟨hr, hs, h⟩ | ⟨hr, hs, h⟩
  · simp [h, State.afterCycle, State.committed, HostCycle.effect, HostCycle.drives,
      HostCycle.reads, HostCycle.isTransaction, hr]
  · simp [h, State.afterCycle, State.committed, HostCycle.effect, HostCycle.drives,
      HostCycle.reads, HostCycle.isTransaction, hr, hs]
  · rw [h, HostCycle.word]
    cases hw : c.we
    · simp [decode_mkWord_read, exec_decodeRead, State.afterCycle, State.answered,
        HostCycle.effect, HostCycle.drives, HostCycle.reads, HostCycle.isTransaction, hr, hs, hw]
    · simp [decode_mkWord_write, exec_decodeWrite, State.afterCycle, State.committed,
        HostCycle.effect, HostCycle.drives, HostCycle.reads, HostCycle.isTransaction, hr, hs, hw]

theorem step_eq_afterCycle {s : State} {c : HostCycle} {rest : List HostCycle}
    (h : s.pending = c :: rest) :
    step s = .next (State.afterCycle { s with pending := rest } c) := by
  rw [step_of_pending h, busCycle_eq_afterCycle]

theorem runCycles_eq_foldl (cs : List HostCycle) (s : State) :
    runCycles cs s = .next (cs.foldl State.afterCycle { s with pending := [] }) := by
  induction cs generalizing s with
  | nil => rfl
  | cons c cs ih =>
    calc runCycles (c :: cs) s
      _ = runCycles cs (State.afterCycle { s with pending := cs } c) :=
        runCycles_cons (busCycle_eq_afterCycle c _)
      _ = .next ((c :: cs).foldl State.afterCycle { s with pending := [] }) := ih _

theorem foldl_afterCycle_block (cs : List HostCycle) (s : State) :
    (cs.foldl State.afterCycle s).block = cs.foldl (fun b c => c.effect b) s.block := by
  induction cs generalizing s with
  | nil => rfl
  | cons c cs ih => exact ih (s.afterCycle c)

end Sys2Proof.Machine
end

section
/-! SUPPORT. What one cycle can do to the block, case by case, and from it what every cycle leaves in
ILLEGAL, CRC_ACC and the results. -/

namespace Sys2Proof.Machine

/-! ## The cases -/

/-- `BlockChange b c b'`: the cycle `c` turns the block `b` into `b'`. One constructor for each thing a
cycle can do: reset, no write, a write of each kind of register, each command. -/
inductive BlockChange (b : Block) : HostCycle → Block → Prop
  | reset {c : HostCycle} (h : c.isReset = true) : BlockChange b c Block.reset
  | quiet {c : HostCycle} (hr : c.isReset = false) (hw : (c.isTransaction && c.we) = false) :
      BlockChange b c b
  | payload {a : RegAddr} (n : Fin 7) (d : Byte) (h : a.toNat = n) :
      BlockChange b (.memWrite a d) (b.setPayload n d)
  | variant (d : Byte) : BlockChange b (.memWrite 0x08#5 d) (b.setVariant (variantOfData d))
  | feed (d : Byte) :
      BlockChange b (.memWrite 0x0A#5 d) (b.setCrcAcc (crc8Update b.crcAcc d))
  | nop : BlockChange b (.memWrite 0x0B#5 0x00#8) b
  | process : BlockChange b (.memWrite 0x0B#5 0x01#8) b.process
  | crcInit : BlockChange b (.memWrite 0x0B#5 0x02#8) (b.setCrcAcc 0xFF#8)
  | clear : BlockChange b (.memWrite 0x0B#5 0x03#8)
      ((b.setOutcome .none 0x00000#20 0x00000#20).setIllegal false)
  | reserved {d : Byte} (h : 4 ≤ d.toNat) : BlockChange b (.memWrite 0x0B#5 d) (b.setIllegal true)
  | ignored {a : RegAddr} (d : Byte) (h : 7 ≤ a.toNat) (h8 : a ≠ 0x08#5) (hA : a ≠ 0x0A#5)
      (hB : a ≠ 0x0B#5) : BlockChange b (.memWrite a d) b

theorem blockChange_command (b : Block) (d : Byte) :
    BlockChange b (.memWrite 0x0B#5 d) (b.command d) := by
  unfold Block.command
  split
  case h_1 h => obtain rfl : d = 0x00#8 := BitVec.eq_of_toNat_eq h; exact .nop
  case h_2 h =>
    obtain rfl : d = 0x01#8 := BitVec.eq_of_toNat_eq h
    rw [Block.processInOrder_eq_process]
    exact .process
  case h_3 h => obtain rfl : d = 0x02#8 := BitVec.eq_of_toNat_eq h; exact .crcInit
  case h_4 h => obtain rfl : d = 0x03#8 := BitVec.eq_of_toNat_eq h; exact .clear
  case h_5 => exact .reserved (by grind)

theorem blockChange_write (b : Block) (a : RegAddr) (d : Byte) :
    BlockChange b (.memWrite a d) (b.writeReg a d) := by
  unfold Block.writeReg
  split
  case h_1 h => exact .payload 0 d h
  case h_2 h => exact .payload 1 d h
  case h_3 h => exact .payload 2 d h
  case h_4 h => exact .payload 3 d h
  case h_5 h => exact .payload 4 d h
  case h_6 h => exact .payload 5 d h
  case h_7 h => exact .payload 6 d h
  case h_8 h =>
    obtain rfl : a = 0x08#5 := BitVec.eq_of_toNat_eq h
    rw [← variantOfData_eq]
    exact .variant d
  case h_9 h => obtain rfl : a = 0x0A#5 := BitVec.eq_of_toNat_eq h; exact .feed d
  case h_10 h =>
    obtain rfl : a = 0x0B#5 := BitVec.eq_of_toNat_eq h
    exact blockChange_command b d
  case h_11 h => exact .ignored d (by grind) (by grind) (by grind) (by grind)

theorem blockChange_effect (b : Block) (c : HostCycle) : BlockChange b c (c.effect b) := by
  obtain ⟨rstN, sel, we, a, d⟩ := c
  cases rstN
  case false => exact .reset rfl
  cases sel
  case false => exact .quiet rfl rfl
  cases we
  case false => exact .quiet rfl rfl
  exact blockChange_write b a d

theorem blockChange_of_step {s t : State} {c : HostCycle} {rest : List HostCycle}
    (hp : s.pending = c :: rest) (h : step s = .next t) : BlockChange s.block c t.block := by
  rw [step_eq_afterCycle hp] at h
  cases h
  exact blockChange_effect s.block c

/-! ## The kinds of cycle, of a write and of a cycle that is none -/

@[simp] theorem HostCycle.memWrite_we (a : RegAddr) (d : Byte) :
    (HostCycle.memWrite a d).we = true := rfl

@[simp] theorem HostCycle.memWrite_addr (a : RegAddr) (d : Byte) :
    (HostCycle.memWrite a d).addr = a := rfl

@[simp] theorem HostCycle.memWrite_wdata (a : RegAddr) (d : Byte) :
    (HostCycle.memWrite a d).wdata = d := rfl

@[simp] theorem HostCycle.isTransaction_memWrite (a : RegAddr) (d : Byte) :
    (HostCycle.memWrite a d).isTransaction = true := rfl

@[simp] theorem HostCycle.isReset_memWrite (a : RegAddr) (d : Byte) :
    (HostCycle.memWrite a d).isReset = false := rfl

@[simp] theorem HostCycle.isCommand_memWrite (a : RegAddr) (d k : Byte) :
    (HostCycle.memWrite a d).isCommand k = (a == 0x0B#5 && d == k) := rfl

@[simp] theorem HostCycle.isProcess_memWrite (a : RegAddr) (d : Byte) :
    (HostCycle.memWrite a d).isProcess = (a == 0x0B#5 && d == 0x01#8) := rfl

@[simp] theorem HostCycle.isReservedCommand_memWrite (a : RegAddr) (d : Byte) :
    (HostCycle.memWrite a d).isReservedCommand = (a == 0x0B#5 && decide (4 ≤ d.toNat)) := rfl

/-- No cycle is both a reset and a write transaction. -/
theorem not_write_of_isReset {c : HostCycle} (h : c.isReset = true) :
    (c.isTransaction && c.we) = false := by
  simp_all [HostCycle.isReset, HostCycle.isTransaction]

theorem isCommand_of_not_write {c : HostCycle} (h : (c.isTransaction && c.we) = false) (k : Byte) :
    c.isCommand k = false := by
  simp only [HostCycle.isCommand, h, Bool.false_and]

theorem isReservedCommand_of_not_write {c : HostCycle} (h : (c.isTransaction && c.we) = false) :
    c.isReservedCommand = false := by
  simp only [HostCycle.isReservedCommand, h, Bool.false_and]

/-- No register from 0x07 on is a payload byte. -/
theorem payload_addr_beq {a k : RegAddr} {n : Fin 7} (h : a.toNat = n) (hk : 7 ≤ k.toNat) :
    (a == k) = false := by
  rw [beq_eq_false_iff_ne]
  rintro rfl
  omega

/-- No reserved command code is one of the four commands. -/
theorem reserved_code_beq {d k : Byte} (h : 4 ≤ d.toNat) (hk : k.toNat < 4) : (d == k) = false := by
  rw [beq_eq_false_iff_ne]
  rintro rfl
  omega

/-! ## What a cycle leaves in the elements of the block -/

theorem BlockChange.illegal_eq {b b' : Block} {c : HostCycle} (h : BlockChange b c b') :
    b'.illegal = (c.isReservedCommand || (b.illegal && !c.clearsIllegal)) := by
  unfold HostCycle.clearsIllegal
  cases h with
  | reset hr =>
    simp [hr, isReservedCommand_of_not_write (not_write_of_isReset hr), Block.reset]
  | quiet hr hw => simp [hr, isReservedCommand_of_not_write hw, isCommand_of_not_write hw]
  | payload n d ha => simp [payload_addr_beq (k := 0x0B#5) ha (by decide)]
  | reserved hd => simp [hd]
  | ignored d _ _ _ hB => simp [beq_false_of_ne hB]
  | variant | feed | nop | process | crcInit | clear => simp

theorem BlockChange.crcAcc_eq {b b' : Block} {c : HostCycle} (h : BlockChange b c b') :
    b'.crcAcc =
      if c.isReset then 0xFF#8
      else if c.isCommand 0x02#8 then 0xFF#8
      else if c.isProcess then b.payload.crc
      else if c.isTransaction && c.we && c.addr == 0x0A#5 then crc8Update b.crcAcc c.wdata
      else b.crcAcc := by
  cases h with
  | reset hr => simp [hr, Block.reset]
  | quiet hr hw => simp only [hr, hw, isCommand_of_not_write hw, HostCycle.isProcess]; rfl
  | payload n d ha =>
    simp [payload_addr_beq (k := 0x0B#5) ha (by decide),
      payload_addr_beq (k := 0x0A#5) ha (by decide)]
  | reserved hd =>
    simp [reserved_code_beq (k := 0x01#8) hd (by decide),
      reserved_code_beq (k := 0x02#8) hd (by decide)]
  | ignored d _ _ hA hB => simp [hA, hB]
  | variant | feed | nop | process | crcInit | clear => simp

/-- RESULT and the codes after a cycle: kept, PROCESS's, or cleared by CLEAR and reset. -/
theorem BlockChange.results_cases {b b' : Block} {c : HostCycle} (h : BlockChange b c b') :
    (c.setsResults = false ∧ b'.results = b.results) ∨ (c.isProcess = true ∧ b' = b.process) ∨
      b'.results = (.none, 0, 0) := by
  unfold HostCycle.setsResults
  cases h with
  | reset | clear => exact .inr (.inr rfl)
  | process => exact .inr (.inl ⟨rfl, rfl⟩)
  | quiet hr hw =>
    exact .inl ⟨by simp [hr, isCommand_of_not_write hw, HostCycle.isProcess], rfl⟩
  | payload n d ha =>
    exact .inl ⟨by simp [payload_addr_beq (k := 0x0B#5) ha (by decide)], rfl⟩
  | reserved hd =>
    exact .inl ⟨by simp [reserved_code_beq (k := 0x01#8) hd (by decide),
      reserved_code_beq (k := 0x03#8) hd (by decide)], rfl⟩
  | ignored d _ _ _ hB => exact .inl ⟨by simp [hB], rfl⟩
  | variant | feed | nop | crcInit => exact .inl ⟨by simp, rfl⟩

theorem Block.results_eq_iff {b b' : Block} :
    b'.results = b.results ↔
      b'.result = b.result ∧ b'.humRaw = b.humRaw ∧ b'.tempRaw = b.tempRaw := by
  simp [Block.results]

theorem BlockChange.consistent {b b' : Block} {c : HostCycle} (h : BlockChange b c b')
    (hb : b.Consistent) : b'.Consistent := by
  rcases h.results_cases with ⟨-, hres⟩ | ⟨-, rfl⟩ | hres
  · obtain ⟨hr, hh, ht⟩ := Block.results_eq_iff.1 hres
    rwa [Block.Consistent, hr, hh, ht]
  · exact Block.process_consistent b
  · simp only [Block.results, Prod.mk.injEq] at hres
    exact fun _ => hres.2

end Sys2Proof.Machine
end

section
/-! SUPPORT. The block after a run from reset (10_state.md R36). -/

namespace Sys2Proof.Machine

/-- The block after the cycles `cs` from reset, as the register map gives it. -/
def blockAfter (cs : List HostCycle) : Block := cs.foldl (fun b c => c.effect b) Block.reset

theorem blockAfter_append_singleton (cs : List HostCycle) (c : HostCycle) :
    blockAfter (cs ++ [c]) = c.effect (blockAfter cs) := by
  simp [blockAfter]

theorem runCycles_reset (cs : List HostCycle) :
    ∃ t, runCycles cs State.reset = .next t ∧ t.block = blockAfter cs :=
  ⟨_, runCycles_eq_foldl cs State.reset, foldl_afterCycle_block cs _⟩

theorem blockAfter_consistent (cs : List HostCycle) : (blockAfter cs).Consistent := by
  induction cs using List.reverseRecOn with
  | nil => exact fun _ => ⟨rfl, rfl⟩
  | append_singleton cs c ih =>
    rw [blockAfter_append_singleton]
    exact (blockChange_effect _ c).consistent ih

/-- `hum` and `temp` are the fields of the payload as it stood when the last PROCESS of `cs` began, and
no cycle after that PROCESS sets the results. -/
def FieldsAtLastProcess (cs : List HostCycle) (hum temp : Code20) : Prop :=
  ∃ (before after : List HostCycle) (c : HostCycle),
    cs = before ++ c :: after ∧ c.isProcess = true ∧ (∀ x ∈ after, x.setsResults = false) ∧
    hum = (blockAfter before).payload.humRaw ∧ temp = (blockAfter before).payload.tempRaw

theorem fieldsAtLastProcess_process {c : HostCycle} (cs : List HostCycle) (hc : c.isProcess = true) :
    FieldsAtLastProcess (cs ++ [c]) (blockAfter cs).payload.humRaw (blockAfter cs).payload.tempRaw :=
  ⟨cs, [], c, rfl, hc, by simp, rfl, rfl⟩

/-- A cycle that does not set the results leaves the last PROCESS the last. -/
theorem FieldsAtLastProcess.append {cs : List HostCycle} {hum temp : Code20} {x : HostCycle}
    (h : FieldsAtLastProcess cs hum temp) (hx : x.setsResults = false) :
    FieldsAtLastProcess (cs ++ [x]) hum temp := by
  obtain ⟨before, after, c, rfl, hc, hafter, hfields⟩ := h
  refine ⟨before, after ++ [x], c, by simp, hc, fun y hy => ?_, hfields⟩
  rcases List.mem_append.1 hy with hy | hy
  · exact hafter y hy
  · rwa [List.mem_singleton.1 hy]

theorem blockAfter_ok (cs : List HostCycle) (hok : (blockAfter cs).result = .ok) :
    FieldsAtLastProcess cs (blockAfter cs).humRaw (blockAfter cs).tempRaw := by
  induction cs using List.reverseRecOn with
  | nil => cases hok
  | append_singleton cs c ih =>
    rw [blockAfter_append_singleton] at hok ⊢
    rcases (blockChange_effect (blockAfter cs) c).results_cases with
      ⟨hc, hres⟩ | ⟨hc, hproc⟩ | hres
    · obtain ⟨hr, hh, ht⟩ := Block.results_eq_iff.1 hres
      rw [hh, ht]
      exact (ih (hr ▸ hok)).append hc
    · rw [hproc, Block.process_result] at hok
      rw [hproc, Block.process_humRaw, Block.process_tempRaw, if_pos hok, if_pos hok]
      exact fieldsAtLastProcess_process cs hc
    · cases hok.symm.trans (congrArg Prod.fst hres)

end Sys2Proof.Machine
end

section
/-! The obligations of 10_state.md settled here. -/

namespace Sys2Proof.Machine

/-- Settles O20, by induction on the run from its end: the last cycle keeps the results, is a PROCESS,
or clears them. -/
theorem resultsDescribeTheLastProcess : Obligations.ResultsDescribeTheLastProcess := by
  intro cs
  obtain ⟨t, ht, hblock⟩ := runCycles_reset cs
  refine ⟨t, ht, hblock ▸ blockAfter_consistent cs, fun hok => ?_⟩
  rw [hblock] at hok ⊢
  obtain ⟨before, after, c, hcs, hc, hafter, hhum, htemp⟩ := blockAfter_ok cs hok
  obtain ⟨u, hu, hublock⟩ := runCycles_reset before
  rw [← hublock] at hhum htemp
  exact ⟨before, after, c, u, hcs, hc, hafter, hu, hhum, htemp⟩

/-- Settles O22, by the case of the cycle. -/
theorem illegalIsSticky : Obligations.IllegalIsSticky := by
  intro s t c rest hp hstep
  exact (blockChange_of_step hp hstep).illegal_eq

/-- Settles O23, by the case of the cycle. -/
theorem crcAccWriters : Obligations.CrcAccWriters := by
  refine ⟨fun s t c rest hp hstep => ?_, fun _ => rfl, rfl⟩
  exact (blockChange_of_step hp hstep).crcAcc_eq

theorem readReg_reset (a : RegAddr) : Block.reset.readReg a =
    if a = 0x08#5 then 0x01#8 else if a = 0x0A#5 then 0xFF#8 else 0x00#8 := by
  revert a
  decide

/-- Settles O17, by evaluating the reset block at each of the 32 addresses. -/
theorem resetValues : Obligations.ResetValues :=
  ⟨⟨rfl, rfl, rfl, rfl, rfl, rfl, rfl⟩, readReg_reset⟩
end Sys2Proof.Machine
end

section
/-! A transaction against the register map (20_memory.md R41, R43): what `State.afterCycle` is on a
read and on a write, and the obligation of 20_memory.md settled from it. -/

namespace Sys2Proof.Machine

/-- A read transaction is answered from the block before the edge, which it keeps. -/
theorem afterCycle_read {c : HostCycle} (s : State) (hr : c.rstN = true) (hs : c.sel = true)
    (hw : c.we = false) : s.afterCycle c = s.answered (s.block.readReg c.addr) := by
  simp [State.afterCycle, State.answered, HostCycle.effect, HostCycle.drives, HostCycle.reads,
    HostCycle.isTransaction, hr, hs, hw]

/-- A write transaction commits the block the register map gives for its address and data. -/
theorem afterCycle_write {c : HostCycle} (s : State) (hr : c.rstN = true) (hs : c.sel = true)
    (hw : c.we = true) : s.afterCycle c = s.committed (s.block.writeReg c.addr c.wdata) := by
  simp [State.afterCycle, State.committed, HostCycle.effect, HostCycle.drives, HostCycle.reads,
    HostCycle.isTransaction, hr, hs, hw]

/-- Settles O14: a step is the cycle's effect by the register map, which for a transaction is a read's
answer or a write's commit. -/
theorem transactionsFollowTheRegisterMap : Obligations.TransactionsFollowTheRegisterMap := by
  intro s c rest hp hr hs
  rw [step_eq_afterCycle hp]
  constructor
  · intro hw
    rw [afterCycle_read _ hr hs hw]
    rfl
  · intro hw
    rw [afterCycle_write _ hr hs hw]
    rfl

end Sys2Proof.Machine
end

section
/-! SUPPORT. A transaction word as a number, as masked bits and as an OR of its fields
(30_encoding.md R61). -/

namespace Sys2Proof

/-- R61 as a number: the bytes and bits of a word stand side by side. -/
theorem mkWord_toNat (wr : Bool) (a : RegAddr) (d : Byte) :
    (mkWord wr a d).toNat = wr.toNat * 2 ^ 13 + a.toNat * 2 ^ 8 + d.toNat := by
  have h : (mkWord wr a d).toNat = ((BitVec.ofBool wr ++ a) ++ d).toNat := rfl
  rw [h, Machine.toNat_append_byte, BitVec.toNat_append, ← Nat.shiftLeft_add_eq_or_of_lt a.isLt,
    Nat.shiftLeft_eq, BitVec.toNat_ofBool]
  ring

/-- R61 as bits: D may be put into its field last. -/
theorem mkWord_eq_or (wr : Bool) (a : RegAddr) (d : Byte) :
    mkWord wr a d = mkWord wr a 0x00#8 ||| d.setWidth 14 := by
  apply BitVec.eq_of_getLsbD_eq
  intro i hi
  rw [BitVec.getLsbD_or, getLsbD_mkWord, getLsbD_mkWord, BitVec.getLsbD_setWidth]
  rcases Nat.lt_or_ge i 8 with h8 | h8
  · simp [h8, hi]
  · simp [Nat.not_lt.2 h8, BitVec.getLsbD_of_ge d i h8]

/-- Masking out D keeps W and A. -/
theorem word_and_maskWA (w : TWord) :
    w &&& 0x3F00#14 = mkWord (wordIsWrite w) (wordAddr w) 0x00#8 := by
  have hmask : 0x3F00#14 = mkWord true 0x1F#5 0x00#8 := rfl
  have haddr : wordAddr w &&& 0x1F#5 = wordAddr w := BitVec.and_allOnes
  have hdata : wordData w &&& 0x00#8 = 0x00#8 := BitVec.and_zero
  calc w &&& 0x3F00#14
      = mkWord (wordIsWrite w) (wordAddr w) (wordData w) &&& mkWord true 0x1F#5 0x00#8 := by
        rw [mkWord_fields, hmask]
    _ = mkWord (wordIsWrite w) (wordAddr w) 0x00#8 := by
        rw [mkWord_and, Bool.and_true, haddr, hdata]

theorem mkWord_inj {wr wr' : Bool} {a a' : RegAddr} {d d' : Byte} :
    mkWord wr a d = mkWord wr' a' d' ↔ wr = wr' ∧ a = a' ∧ d = d' := by
  constructor
  · intro h
    exact ⟨by simpa using congrArg wordIsWrite h, by simpa using congrArg wordAddr h,
      by simpa using congrArg wordData h⟩
  · rintro ⟨rfl, rfl, rfl⟩
    rfl

/-- An instruction's word as R70 spells it: the immediate put into the word with D = 0. -/
theorem encode_eq_or (i : Instr) :
    encode i = mkWord i.isWrite i.addr 0x00#8 ||| i.data.setWidth 14 :=
  mkWord_eq_or _ _ _

end Sys2Proof
end

section
/-! SUPPORT. What the decoder keeps of a word's fields (30_encoding.md R63 to R65): encoding what it
answers gives them back, and what it answers is well-formed. -/

namespace Sys2Proof

theorem encode_decodeRead (a : RegAddr) : encode (decodeRead a) = mkWord false a 0x00#8 := by
  revert a
  decide

theorem encode_decodeCommand (d : Byte) : encode (decodeCommand d) = mkWord true 0x0B#5 d := by
  unfold decodeCommand
  split
  case h_5 => split_ifs <;> rfl
  all_goals
    rename_i h
    exact congrArg (mkWord true 0x0B#5) (BitVec.eq_of_toNat_eq h.symm)

theorem encode_decodeWrite (a : RegAddr) (d : Byte) : encode (decodeWrite a d) = mkWord true a d := by
  unfold decodeWrite
  split
  case h_12 h => rw [encode_decodeCommand, BitVec.eq_of_toNat_eq (x := a) (y := 0x0B#5) h]
  case h_21 => split_ifs <;> rfl
  all_goals
    rename_i h
    exact congrArg (mkWord true · d) (BitVec.eq_of_toNat_eq h.symm)

/-- Decoding loses the D of a read and nothing else. -/
theorem encode_decode (w : TWord) :
    encode (decode w) = if wordIsWrite w then w else mkWord false (wordAddr w) 0x00#8 := by
  unfold decode
  split
  next hw => rw [encode_decodeWrite, ← hw, mkWord_fields]
  next => exact encode_decodeRead _

theorem wellFormed_decodeRead (a : RegAddr) : (decodeRead a).wellFormed = true := by
  revert a
  decide

theorem wellFormed_decodeCommand (d : Byte) : (decodeCommand d).wellFormed = true := by
  have hd := d.isLt
  unfold decodeCommand
  split
  case h_5 =>
    split_ifs <;> simp only [Instr.wellFormed, inRange, decide_eq_true_eq] <;> grind
  all_goals rfl

theorem wellFormed_decodeWrite (a : RegAddr) (d : Byte) : (decodeWrite a d).wellFormed = true := by
  have ha := a.isLt
  unfold decodeWrite
  split
  case h_12 => exact wellFormed_decodeCommand d
  case h_21 =>
    split_ifs <;> simp only [Instr.wellFormed, inRange, decide_eq_true_eq] <;> grind
  all_goals rfl

theorem wellFormed_decode (w : TWord) : (decode w).wellFormed = true := by
  unfold decode
  split
  · exact wellFormed_decodeWrite _ _
  · exact wellFormed_decodeRead _

/-- The instruction is a write exactly when the word is. -/
theorem isWrite_decode (w : TWord) : (decode w).isWrite = wordIsWrite w := by
  rw [← encode_isWrite, encode_decode]
  split
  next => rfl
  next hw => rw [wordIsWrite_mkWord, Bool.eq_false_of_not_eq_true hw]

/-- Two words with one instruction are one word, but for the D of a read. -/
theorem decode_eq_iff (w w' : TWord) : decode w = decode w' ↔
    w = w' ∨ (wordIsWrite w = false ∧ w &&& 0x3F00#14 = w' &&& 0x3F00#14) := by
  rw [word_and_maskWA, word_and_maskWA]
  constructor
  · intro h
    have hwr : wordIsWrite w = wordIsWrite w' := by rw [← isWrite_decode, h, isWrite_decode]
    have henc : encode (decode w) = encode (decode w') := congrArg encode h
    rw [encode_decode, encode_decode, ← hwr] at henc
    rw [← hwr]
    cases hw : wordIsWrite w
    case true => exact .inl (by simpa [hw] using henc)
    case false => exact .inr ⟨rfl, by simpa [hw] using henc⟩
  · rintro (rfl | ⟨hw, hwa⟩)
    · rfl
    · obtain ⟨hwr, haddr, -⟩ := mkWord_inj.1 hwa
      simp [decode, ← hwr, hw, haddr]

end Sys2Proof
end

section
/-! SUPPORT. The opcode table as a partition (30_encoding.md R71): every word lies in the row of the
instruction it decodes to, and two rows with a word in common are one row. -/

namespace Sys2Proof

open Laws.EncodesIntoRow in
/-- The laws of Laws/PerInstr.lean put together. -/
theorem covers_encode (i : Instr) : Statement i := by
  cases i
  exacts [rdPayload0, rdPayload1, rdPayload2, rdPayload3, rdPayload4, rdPayload5, rdPayload6, rdCtrl,
    rdStatus, rdCrc, rdCmd, rdHum0, rdHum1, rdHum2, rdTemp0, rdTemp1, rdTemp2, rdRsvd07, rdRsvd0F,
    rdRsvd13, rdRsvd14 _, rdRsvd18 _, wrPayload0 _, wrPayload1 _, wrPayload2 _, wrPayload3 _,
    wrPayload4 _, wrPayload5 _, wrPayload6 _, wrCtrl _, wrRoStatus _, wrCrc _, cmdNop, cmdProcess,
    cmdCrcInit, cmdClear, cmdRsvd04 _, cmdRsvd08 _, cmdRsvd10 _, cmdRsvd20 _, cmdRsvd40 _,
    cmdRsvd80 _, wrRoHum0 _, wrRoHum1 _, wrRoHum2 _, wrRoTemp0 _, wrRoTemp1 _, wrRoTemp2 _,
    wrRsvd07 _, wrRsvd0F _, wrRsvd13 _, wrRsvd14 _ _, wrRsvd18 _ _]

/-- Bits outside a row's mask do not matter to it. -/
theorem TableRow.covers_and {r : TableRow} {m : TWord} (h : m &&& r.mask = r.mask) (w : TWord) :
    r.covers (w &&& m) = r.covers w := by
  rw [TableRow.covers, TableRow.covers, BitVec.and_assoc, h]

/-- No row of a read looks at D (R64). -/
theorem maskWA_and_mask_decodeRead (a : RegAddr) :
    0x3F00#14 &&& (decodeRead a).tableRow.mask = (decodeRead a).tableRow.mask := by
  revert a
  decide

theorem covers_decode (w : TWord) : (decode w).tableRow.covers w = true := by
  have henc : (decode w).tableRow.covers (encode (decode w)) = true :=
    covers_encode (decode w) (wellFormed_decode w)
  rw [encode_decode] at henc
  cases hw : wordIsWrite w
  case true => rwa [if_pos hw] at henc
  case false =>
    have hread : decode w = decodeRead (wordAddr w) := by simp [decode, hw]
    have hword : mkWord false (wordAddr w) 0x00#8 = w &&& 0x3F00#14 := by
      rw [word_and_maskWA, hw]
    rw [hread] at henc ⊢
    rwa [hw, if_neg Bool.false_ne_true, hword,
      TableRow.covers_and (maskWA_and_mask_decodeRead _)] at henc

theorem tableRow_mem_opcodeTable (i : Instr) : i.tableRow ∈ opcodeTable := by
  cases i <;> (simp only [Instr.tableRow]; decide)

theorem opcodeTable_nodup : opcodeTable.Nodup := by decide

/-- Two rows of the table agree where both look only if they are one row. -/
theorem opcodeTable_eq_of_agree : ∀ r ∈ opcodeTable, ∀ r' ∈ opcodeTable,
    r.pattern &&& r'.mask = r'.pattern &&& r.mask → r = r' := by
  decide +kernel

theorem opcodeTable_eq_of_covers {r r' : TableRow} {w : TWord} (hr : r ∈ opcodeTable)
    (hr' : r' ∈ opcodeTable) (hw : r.covers w = true) (hw' : r'.covers w = true) : r = r' := by
  have hp : w &&& r.mask = r.pattern := by simpa [TableRow.covers] using hw
  have hp' : w &&& r'.mask = r'.pattern := by simpa [TableRow.covers] using hw'
  apply opcodeTable_eq_of_agree r hr r' hr'
  calc r.pattern &&& r'.mask = w &&& r'.mask &&& r.mask := by
        rw [← hp, BitVec.and_assoc, BitVec.and_comm r.mask, ← BitVec.and_assoc]
    _ = r'.pattern &&& r.mask := by rw [hp']

/-- A row of the table covers a word exactly when it is the row the decoder reads. -/
theorem covers_iff_eq_tableRow {r : TableRow} (hr : r ∈ opcodeTable) (w : TWord) :
    r.covers w = (r == (decode w).tableRow) := by
  rw [Bool.eq_iff_iff, beq_iff_eq]
  constructor
  · intro hw
    exact opcodeTable_eq_of_covers hr (tableRow_mem_opcodeTable _) hw (covers_decode w)
  · rintro rfl
    exact covers_decode w

end Sys2Proof
end

section
/-! The obligations of 30_encoding.md settled here. -/

namespace Sys2Proof.Machine

/-- Settles O3, from what encoding the decoded instruction gives back. -/
theorem readDataIsTheOnlyDontCare : Obligations.ReadDataIsTheOnlyDontCare := by
  refine ⟨decode_eq_iff, fun a => ⟨_, rfl, ?_⟩⟩
  revert a
  decide

/-- Settles O5: filtering by `covers` is filtering by equality with the decoder's row, which is in the
table once. -/
theorem opcodeTablePartitionsTheWords : Obligations.OpcodeTablePartitionsTheWords := by
  refine ⟨rfl, fun w => ?_⟩
  rw [List.filter_congr fun r hr => covers_iff_eq_tableRow hr w, List.filter_beq,
    List.count_eq_one_of_mem opcodeTable_nodup (tableRow_mem_opcodeTable _)]
  rfl

/-- Settles O6: the number of a word, its fields read back, and three words evaluated. -/
theorem transactionWordLayout : Obligations.TransactionWordLayout := by
  refine ⟨fun wr a d => ⟨?_, wordIsWrite_mkWord wr a d, wordAddr_mkWord wr a d,
    wordData_mkWord wr a d⟩, rfl, rfl, rfl⟩
  rw [mkWord_toNat]
  cases wr <;> rfl

/-- Settles O8: an instruction without an operand is evaluated, a write puts its byte into D. -/
theorem pseudoExpansions : Obligations.PseudoExpansions := by
  refine ⟨rfl, rfl, rfl, rfl, fun b => ?_, rfl, rfl, fun p => ?_, rfl, rfl⟩
  all_goals
    simp only [AsmStatement.words, Pseudo.expand, List.map_cons, List.map_nil, encode_eq_or,
      Instr.isWrite, Instr.addr, Instr.data]
    rfl

end Sys2Proof.Machine
end

section
/-! SUPPORT. The words of one row of the opcode table (30_encoding.md R63, R64, R71): a row is a mask and
a pattern on W and A, and its words are those that decode to the row's instruction. -/

namespace Sys2Proof

/-- Masking a word by a row that fixes W and some bits of A. -/
theorem word_and_rowMask (w : TWord) (m : RegAddr) :
    w &&& mkWord true m 0x00#8 = mkWord (wordIsWrite w) (wordAddr w &&& m) 0x00#8 := by
  have hdata : wordData w &&& 0x00#8 = 0x00#8 := BitVec.and_zero
  conv_lhs => rw [← mkWord_fields w, mkWord_and, Bool.and_true, hdata]

/-! ## Rows of one address -/

/-- The words of the read at `k`: W = 0 and A = `k`, whatever D. -/
theorem decode_eq_decodeRead_iff (k : RegAddr) (w : TWord) :
    decode w = decodeRead k ↔ w &&& 0x3F00#14 = mkWord false k 0x00#8 := by
  rw [word_and_maskWA, mkWord_inj, ← decode_mkWord_read k 0x00#8, decode_eq_iff, word_and_maskWA,
    word_and_maskWA, mkWord_inj]
  constructor
  · rintro (rfl | ⟨hw, -, ha, -⟩)
    · simp
    · exact ⟨hw, by simpa using ha, rfl⟩
  · rintro ⟨hw, ha, -⟩
    exact .inr ⟨hw, by simp [hw], by simp [ha], rfl⟩

/-- The words of the write at `k`: W = 1 and A = `k`, with D the operand. -/
theorem decode_eq_decodeWrite_iff (k : RegAddr) (w : TWord) :
    decode w = decodeWrite k (wordData w) ↔ w &&& 0x3F00#14 = mkWord true k 0x00#8 := by
  rw [word_and_maskWA, mkWord_inj, ← decode_mkWord_write]
  constructor
  · intro h
    have hwr : wordIsWrite w = true := by
      rw [← isWrite_decode, h, isWrite_decode, wordIsWrite_mkWord]
    rcases (decode_eq_iff _ _).1 h with hword | ⟨hread, -⟩
    · exact ⟨hwr, by rw [hword, wordAddr_mkWord], rfl⟩
    · cases hread.symm.trans hwr
  · rintro ⟨hwr, rfl, -⟩
    rw [← hwr, mkWord_fields]

/-! ## Rows of several addresses -/

/-- The words of a row that fixes the bits `m` of A to `p`: those with the row's W and those bits. -/
theorem decode_eq_iff_of_row {f : RegAddr → Byte → Instr} {wr : Bool} {m p : RegAddr}
    (hrow : ∀ a d, (f a d).tableRow = ⟨mkWord wr p 0x00#8, mkWord true m 0x00#8⟩)
    (hdec : ∀ a d, a &&& m = p → decode (mkWord wr a d) = f a d) (w : TWord) :
    decode w = f (wordAddr w) (wordData w) ↔
      w &&& mkWord true m 0x00#8 = mkWord wr p 0x00#8 := by
  constructor
  · intro h
    have hcov := covers_decode w
    rw [h, hrow] at hcov
    exact eq_of_beq hcov
  · intro h
    rw [word_and_rowMask, mkWord_inj] at h
    obtain ⟨hwr, ha, -⟩ := h
    rw [← hdec _ _ ha, ← hwr, mkWord_fields]

theorem decodeRead_rsvd14 : ∀ a : RegAddr, a &&& 0x1C#5 = 0x14#5 → decodeRead a = .rdRsvd14 a := by
  decide

theorem decodeRead_rsvd18 : ∀ a : RegAddr, a &&& 0x18#5 = 0x18#5 → decodeRead a = .rdRsvd18 a := by
  decide

/-- A write above TEMP's addresses is one of the last two reserved rows. -/
theorem decodeWrite_above_map {a : RegAddr} (d : Byte) (h : 0x13 < a.toNat) :
    decodeWrite a d = if a.toNat < 0x18 then .wrRsvd14 a d else .wrRsvd18 a d := by
  unfold decodeWrite
  split
  case h_21 => rfl
  all_goals omega

theorem decodeWrite_rsvd14 (a : RegAddr) (d : Byte) (h : a &&& 0x1C#5 = 0x14#5) :
    decodeWrite a d = .wrRsvd14 a d := by
  have hrange : 0x13 < a.toNat ∧ a.toNat < 0x18 := by revert a; decide
  rw [decodeWrite_above_map d hrange.1, if_pos hrange.2]

theorem decodeWrite_rsvd18 (a : RegAddr) (d : Byte) (h : a &&& 0x18#5 = 0x18#5) :
    decodeWrite a d = .wrRsvd18 a d := by
  have hrange : 0x13 < a.toNat ∧ ¬ a.toNat < 0x18 := by revert a; decide
  rw [decodeWrite_above_map d hrange.1, if_neg hrange.2]

theorem decode_eq_rdRsvd14_iff (w : TWord) :
    decode w = .rdRsvd14 (wordAddr w) ↔ w &&& 0x3C00#14 = 0x1400#14 :=
  decode_eq_iff_of_row (f := fun a _ => .rdRsvd14 a) (wr := false) (m := 0x1C#5) (p := 0x14#5)
    (fun _ _ => rfl) (fun a d h => (decode_mkWord_read a d).trans (decodeRead_rsvd14 a h)) w

theorem decode_eq_rdRsvd18_iff (w : TWord) :
    decode w = .rdRsvd18 (wordAddr w) ↔ w &&& 0x3800#14 = 0x1800#14 :=
  decode_eq_iff_of_row (f := fun a _ => .rdRsvd18 a) (wr := false) (m := 0x18#5) (p := 0x18#5)
    (fun _ _ => rfl) (fun a d h => (decode_mkWord_read a d).trans (decodeRead_rsvd18 a h)) w

theorem decode_eq_wrRsvd14_iff (w : TWord) :
    decode w = .wrRsvd14 (wordAddr w) (wordData w) ↔ w &&& 0x3C00#14 = 0x3400#14 :=
  decode_eq_iff_of_row (f := .wrRsvd14) (wr := true) (m := 0x1C#5) (p := 0x14#5)
    (fun _ _ => rfl) (fun a d h => (decode_mkWord_write a d).trans (decodeWrite_rsvd14 a d h)) w

theorem decode_eq_wrRsvd18_iff (w : TWord) :
    decode w = .wrRsvd18 (wordAddr w) (wordData w) ↔ w &&& 0x3800#14 = 0x3800#14 :=
  decode_eq_iff_of_row (f := .wrRsvd18) (wr := true) (m := 0x18#5) (p := 0x18#5)
    (fun _ _ => rfl) (fun a d h => (decode_mkWord_write a d).trans (decodeWrite_rsvd18 a d h)) w

/-! ## The payload rows, by the byte's number -/

theorem decodeRead_payload : ∀ n : Fin 7, decodeRead (BitVec.ofNat 5 n) = .payloadRead n := by
  decide

theorem decodeWrite_payload (n : Fin 7) (d : Byte) :
    decodeWrite (BitVec.ofNat 5 n) d = .payloadWrite n d := by
  fin_cases n <;> rfl

theorem mkWord_read_payload : ∀ n : Fin 7,
    mkWord false (BitVec.ofNat 5 n) 0x00#8 = BitVec.ofNat 14 (n.val <<< 8) := by
  decide

theorem mkWord_write_payload : ∀ n : Fin 7,
    mkWord true (BitVec.ofNat 5 n) 0x00#8 = 0x2000#14 ||| BitVec.ofNat 14 (n.val <<< 8) := by
  decide

end Sys2Proof
end

section
/-! SUPPORT. What the register reads and writes answer (40_register_access.md): the payload by its byte's
number, the bytes of a code as numbers, VARIANT. -/

namespace Sys2Proof.Machine

theorem exec_payloadRead (n : Fin 7) (s : State) :
    exec (.payloadRead n) s = .next (s.answered (s.block.payload.get n)) := by
  fin_cases n <;> rfl

theorem exec_payloadWrite (n : Fin 7) (d : Byte) (s : State) :
    exec (.payloadWrite n d) s = .next (s.committed (s.block.setPayload n d)) := by
  fin_cases n <;> rfl

theorem exec_cmdProcess (s : State) :
    exec .cmdProcess s = .next (s.committed s.block.process) := rfl

theorem Payload.get_reset (n : Fin 7) : Payload.reset.get n = 0x00#8 := by
  fin_cases n <;> rfl

theorem SensorVariant.bit_setWidth_eq_ite (v : SensorVariant) :
    v.bit.setWidth 8 = if v = .aht2x then 0x01#8 else 0x00#8 := by
  cases v <;> rfl

theorem variantOfData_eq_aht2x {d : Byte} : variantOfData d = .aht2x ↔ d.getLsbD 0 = true := by
  unfold variantOfData
  split <;> simp_all

/-! ## The bytes of a code as numbers (R87, R88) -/

theorem codeByte0_eq_ofNat (c : Code20) : codeByte0 c = BitVec.ofNat 8 (c.toNat % 256) := by
  apply BitVec.eq_of_toNat_eq
  simp [codeByte0]

theorem codeByte1_eq_ofNat (c : Code20) : codeByte1 c = BitVec.ofNat 8 (c.toNat / 256 % 256) := by
  apply BitVec.eq_of_toNat_eq
  simp [codeByte1, Nat.shiftRight_eq_div_pow]

theorem codeByte2_eq_ofNat (c : Code20) : codeByte2 c = BitVec.ofNat 8 (c.toNat / 65536) := by
  have hc := c.isLt
  apply BitVec.eq_of_toNat_eq
  simp only [codeByte2, BitVec.toNat_setWidth, BitVec.extractLsb'_toNat, BitVec.toNat_ofNat,
    Nat.shiftRight_eq_div_pow]
  omega

end Sys2Proof.Machine
end

section
/-! The obligations of 40_register_access.md settled here. -/

namespace Sys2Proof.Machine

/-- Settles O27: the read is at address N, and PROCESS keeps the payload the write left. -/
theorem payloadReads : Obligations.PayloadReads := by
  intro n
  refine ⟨fun w => ?_, exec_payloadRead n, fun s d => ?_, Payload.get_reset n⟩
  · rw [← decodeRead_payload, decode_eq_decodeRead_iff, mkWord_read_payload]
  · exact ⟨_, _, _, exec_payloadWrite n d s, exec_cmdProcess _, exec_payloadRead n _, by simp⟩

/-- Settles O28: the write is at address N, and setting a byte keeps the six others. -/
theorem payloadWrites : Obligations.PayloadWrites := by
  intro n
  refine ⟨fun w => ?_, fun s d => ⟨_, exec_payloadWrite n d s, by simp, fun m hm => ?_, rfl⟩⟩
  · rw [← decodeWrite_payload, decode_eq_decodeWrite_iff, mkWord_write_payload]
  · simp [Payload.get_set, hm]

/-- Settles O29, from the variant's bit as a byte and the variant of a byte. -/
theorem ctrlReadsAndWrites : Obligations.CtrlReadsAndWrites :=
  ⟨decode_eq_decodeRead_iff 0x08#5, decode_eq_decodeWrite_iff 0x08#5,
    fun s => ⟨_, rfl, SensorVariant.bit_setWidth_eq_ite s.block.variant, rfl⟩,
    fun _ _ => ⟨_, rfl, variantOfData_eq_aht2x, rfl⟩⟩

/-- Settles O30: the byte is computed for each RESULT and ILLEGAL. -/
theorem statusReads : Obligations.StatusReads := by
  refine ⟨decode_eq_decodeRead_iff 0x09#5, fun s => ⟨s.answered s.block.status, rfl, ?_, rfl⟩⟩
  rw [State.answered_rdata, Block.status_eq_append]
  cases s.block.result <;> cases s.block.illegal <;> rfl

/-- Settles O31, row by row: each is an ignored write. -/
theorem readOnlyWritesChangeNothing : Obligations.ReadOnlyWritesChangeNothing := by
  refine ⟨fun w => ⟨decode_eq_decodeWrite_iff 0x09#5 w, decode_eq_decodeWrite_iff 0x0C#5 w,
    decode_eq_decodeWrite_iff 0x0D#5 w, decode_eq_decodeWrite_iff 0x0E#5 w,
    decode_eq_decodeWrite_iff 0x10#5 w, decode_eq_decodeWrite_iff 0x11#5 w,
    decode_eq_decodeWrite_iff 0x12#5 w⟩, fun d i hi s => ?_⟩
  simp only [List.mem_cons, List.not_mem_nil, or_false] at hi
  have hignore : exec i s = ignoreWrite d s := by
    rcases hi with rfl | rfl | rfl | rfl | rfl | rfl | rfl <;> rfl
  exact hignore

/-- Settles O33, byte by byte: each byte is a quotient or remainder of its code, which is 0 in a
consistent block whose outcome is not OK. -/
theorem resultReads : Obligations.ResultReads := by
  refine ⟨fun w => ⟨decode_eq_decodeRead_iff 0x0C#5 w, decode_eq_decodeRead_iff 0x0D#5 w,
    decode_eq_decodeRead_iff 0x0E#5 w, decode_eq_decodeRead_iff 0x10#5 w,
    decode_eq_decodeRead_iff 0x11#5 w, decode_eq_decodeRead_iff 0x12#5 w⟩, fun s i v hiv => ?_⟩
  have hhum := s.block.humRaw.isLt
  have htemp := s.block.tempRaw.isLt
  simp only [List.mem_cons, List.not_mem_nil, or_false, Prod.mk.injEq] at hiv
  rcases hiv with ⟨rfl, rfl⟩ | ⟨rfl, rfl⟩ | ⟨rfl, rfl⟩ | ⟨rfl, rfl⟩ | ⟨rfl, rfl⟩ | ⟨rfl, rfl⟩
  · exact ⟨by omega, by simp, fun hc hr => by simp [(hc hr).1], by rw [← codeByte0_eq_ofNat]; rfl⟩
  · exact ⟨by omega, by simp, fun hc hr => by simp [(hc hr).1], by rw [← codeByte1_eq_ofNat]; rfl⟩
  · exact ⟨by omega, fun _ => by omega, fun hc hr => by simp [(hc hr).1],
      by rw [← codeByte2_eq_ofNat]; rfl⟩
  · exact ⟨by omega, by simp, fun hc hr => by simp [(hc hr).2], by rw [← codeByte0_eq_ofNat]; rfl⟩
  · exact ⟨by omega, by simp, fun hc hr => by simp [(hc hr).2], by rw [← codeByte1_eq_ofNat]; rfl⟩
  · exact ⟨by omega, fun _ => by omega, fun hc hr => by simp [(hc hr).2],
      by rw [← codeByte2_eq_ofNat]; rfl⟩

/-- Settles O34, row by row: each answers the constant 0x00. -/
theorem reservedReadsReturnZero : Obligations.ReservedReadsReturnZero := by
  refine ⟨fun w => ⟨decode_eq_decodeRead_iff 0x07#5 w, decode_eq_decodeRead_iff 0x0F#5 w,
    decode_eq_decodeRead_iff 0x13#5 w, decode_eq_rdRsvd14_iff w, decode_eq_rdRsvd18_iff w⟩,
    fun a i hi s => ?_⟩
  simp only [List.mem_cons, List.not_mem_nil, or_false] at hi
  have hzero : exec i s = answerRead 0x00#8 s := by
    rcases hi with rfl | rfl | rfl | rfl | rfl <;> rfl
  exact hzero

/-- Settles O35, row by row: each is an ignored write. -/
theorem reservedWritesChangeNothing : Obligations.ReservedWritesChangeNothing := by
  refine ⟨fun w => ⟨decode_eq_decodeWrite_iff 0x07#5 w, decode_eq_decodeWrite_iff 0x0F#5 w,
    decode_eq_decodeWrite_iff 0x13#5 w, decode_eq_wrRsvd14_iff w, decode_eq_wrRsvd18_iff w⟩,
    fun a d i hi s => ?_⟩
  simp only [List.mem_cons, List.not_mem_nil, or_false] at hi
  have hignore : exec i s = ignoreWrite d s := by
    rcases hi with rfl | rfl | rfl | rfl | rfl <;> rfl
  exact hignore

/-- Settles O32: the read at 0x0B answers the constant 0x00. -/
theorem cmdReadsZero : Obligations.CmdReadsZero :=
  ⟨decode_eq_decodeRead_iff 0x0B#5, fun _ => rfl⟩

end Sys2Proof.Machine
end

section
/-! SUPPORT. The payload's fields as slices of one number, and back (41_process.md R100 to R105): a slice
is a quotient and a remainder, so each fact is one about numbers. -/

namespace Sys2Proof.Machine

theorem toNat_extractLsb' {n : Nat} (x : BitVec n) (start len : Nat) :
    (x.extractLsb' start len).toNat = x.toNat / 2 ^ start % 2 ^ len := by
  rw [BitVec.extractLsb'_toNat, Nat.shiftRight_eq_div_pow]

theorem toNat_append_nibble {n : Nat} (x : BitVec n) (b : BitVec 4) :
    (x ++ b).toNat = x.toNat * 16 + b.toNat := by
  rw [BitVec.toNat_append, ← Nat.shiftLeft_add_eq_or_of_lt b.isLt, Nat.shiftLeft_eq]

theorem Payload.word_toNat (p : Payload) :
    p.word.toNat = p.p0.toNat * 2 ^ 48 + p.p1.toNat * 2 ^ 40 + p.p2.toNat * 2 ^ 32 +
      p.p3.toNat * 2 ^ 24 + p.p4.toNat * 2 ^ 16 + p.p5.toNat * 2 ^ 8 + p.p6.toNat := by
  simp only [Payload.word, toNat_append_byte]
  omega

/-- The humidity code is bits 47:28 of the payload (R100). -/
theorem Payload.humRaw_eq_slice (p : Payload) : p.humRaw = p.word.extractLsb' 28 20 := by
  apply BitVec.eq_of_toNat_eq
  rw [toNat_extractLsb', p.word_toNat, p.humRaw_toNat]
  omega

/-- The temperature code is bits 27:8 of the payload (R100). -/
theorem Payload.tempRaw_eq_slice (p : Payload) : p.tempRaw = p.word.extractLsb' 8 20 := by
  apply BitVec.eq_of_toNat_eq
  rw [toNat_extractLsb', p.word_toNat, p.tempRaw_toNat]
  omega

/-- The humidity code is P1, P2 and the high nibble of P3 side by side. -/
theorem Payload.humRaw_eq_append (p : Payload) :
    p.humRaw = p.p1 ++ p.p2 ++ p.p3.extractLsb' 4 4 := by
  apply BitVec.eq_of_toNat_eq
  rw [p.humRaw_toNat, toNat_append_nibble, toNat_append_byte, toNat_extractLsb']
  omega

/-- The temperature code is the low nibble of P3, P4 and P5 side by side. -/
theorem Payload.tempRaw_eq_append (p : Payload) :
    p.tempRaw = p.p3.extractLsb' 0 4 ++ p.p4 ++ p.p5 := by
  apply BitVec.eq_of_toNat_eq
  rw [p.tempRaw_toNat, toNat_append_byte, toNat_append_byte, toNat_extractLsb']
  omega

/-- P1 to P5 are slices of the codes, P3 a nibble of each (R105). -/
theorem Payload.bytes_of_codes (p : Payload) :
    p.p3 = p.humRaw.extractLsb' 0 4 ++ p.tempRaw.extractLsb' 16 4 ∧
    p.p1 = p.humRaw.extractLsb' 12 8 ∧ p.p2 = p.humRaw.extractLsb' 4 8 ∧
    p.p4 = p.tempRaw.extractLsb' 8 8 ∧ p.p5 = p.tempRaw.extractLsb' 0 8 := by
  refine ⟨?_, ?_, ?_, ?_, ?_⟩
  all_goals
    apply BitVec.eq_of_toNat_eq
    simp only [toNat_append_nibble, toNat_extractLsb', p.humRaw_toNat, p.tempRaw_toNat]
    omega

@[simp] theorem Payload.pack_humRaw (st : Byte) (h t : Code20) (crc : Byte) :
    (Payload.pack st h t crc).humRaw = h := by
  apply BitVec.eq_of_toNat_eq
  simp only [Payload.humRaw_toNat, Payload.pack, toNat_append_nibble, toNat_extractLsb']
  omega

@[simp] theorem Payload.pack_tempRaw (st : Byte) (h t : Code20) (crc : Byte) :
    (Payload.pack st h t crc).tempRaw = t := by
  apply BitVec.eq_of_toNat_eq
  simp only [Payload.tempRaw_toNat, Payload.pack, toNat_append_nibble, toNat_extractLsb']
  omega

/-- Packing the codes of a payload, with its status and CRC bytes, gives the payload back (R105). -/
theorem Payload.pack_codes (p : Payload) : Payload.pack p.p0 p.humRaw p.tempRaw p.p6 = p := by
  obtain ⟨h3, h1, h2, h4, h5⟩ := p.bytes_of_codes
  rw [Payload.pack, ← h1, ← h2, ← h3, ← h4, ← h5]

end Sys2Proof.Machine
end

section
/-! SUPPORT. The outcomes of PROCESS (41_process.md R106 to R109, R114): which outcome a payload gives,
and what it gives for the payload the test encoder makes of two codes. -/

namespace Sys2Proof.Machine

/-- A write word is the only word of its instruction: every bit of it counts (30_encoding.md R64). -/
theorem decode_eq_decode_write_iff {w w' : TWord} (h : wordIsWrite w' = true) :
    decode w = decode w' ↔ w = w' := by
  rw [eq_comm, decode_eq_iff, h]
  simp [eq_comm]

/-- The outcome is BADCRC exactly for an AHT2x payload that is not busy and fails the CRC. -/
theorem processResult_badcrc {v : SensorVariant} {p : Payload} :
    processResult v p = .badcrc ↔ p.busy = false ∧ v = .aht2x ∧ p.crcOk = false := by
  unfold processResult
  split_ifs with hbusy hcrc
  · simp [hbusy]
  · simpa [hbusy] using hcrc
  · simpa [hbusy] using hcrc

/-- The outcome is OK exactly for a payload that is not busy and has nothing to check or passes. -/
theorem processResult_ok {v : SensorVariant} {p : Payload} :
    processResult v p = .ok ↔ p.busy = false ∧ (v = .aht1x ∨ p.crcOk = true) := by
  unfold processResult
  split_ifs with hbusy hcrc
  · simp [hbusy]
  · obtain ⟨rfl, hfail⟩ := hcrc
    simp [hfail]
  · cases v <;> simp_all

/-- Under AHT1x the busy check alone decides (R108). -/
theorem processResult_aht1x (p : Payload) :
    processResult .aht1x p = if p.busy then .timeout else .ok := by
  simp [processResult]

/-- An outcome other than OK comes with codes 0 (R106, R109). -/
theorem Block.process_of_failed {b : Block} {r : ProcessResult}
    (hr : processResult b.variant b.payload = r) (hne : r ≠ .ok) :
    b.process.result = r ∧ b.process.humRaw = 0 ∧ b.process.tempRaw = 0 := by
  simp [Block.process_humRaw, Block.process_tempRaw, hr, hne]

/-- The outcome OK comes with the payload's codes (R106). -/
theorem Block.process_of_ok {b : Block} (hr : processResult b.variant b.payload = .ok) :
    b.process.result = .ok ∧ b.process.humRaw = b.payload.humRaw ∧
      b.process.tempRaw = b.payload.tempRaw := by
  simp [Block.process_humRaw, Block.process_tempRaw, hr]

/-- Both codes are the payload's when the outcome is OK, and 0 otherwise (R106, R109). -/
theorem Block.process_results (b : Block) :
    b.process.results = if processResult b.variant b.payload = .ok
      then (.ok, b.payload.humRaw, b.payload.tempRaw)
      else (processResult b.variant b.payload, 0, 0) := by
  rw [Block.results, Block.process_result, Block.process_humRaw, Block.process_tempRaw]
  split_ifs with hok
  · rw [hok]
  · rfl

/-- PROCESS writes CRC_ACC, RESULT and the codes, and nothing else (R106). -/
theorem Block.process_frame (b : Block) :
    b.process = { b with
      crcAcc := b.process.crcAcc, result := b.process.result
      humRaw := b.process.humRaw, tempRaw := b.process.tempRaw } := by
  obtain ⟨r, h, t, e⟩ := recordOutcome_eq b
  rw [Block.process, e]
  rfl

/-! ## Sealed payloads (R114) -/

/-- The CRC does not cover P6, so appending it makes the payload pass. -/
theorem Payload.seal_crcOk (st : Byte) (h t : Code20) : (Payload.seal st h t).crcOk = true :=
  beq_self_eq_true _

/-- A sealed payload that is not busy is decoded, under either variant. -/
theorem processResult_seal {st : Byte} (hst : st.getLsbD 6 = false) (v : SensorVariant)
    (h t : Code20) : processResult v (Payload.seal st h t) = .ok :=
  processResult_ok.2 ⟨(Payload.busy_eq_getLsbD _).trans hst, .inr (Payload.seal_crcOk st h t)⟩

/-- PROCESS gives the sealed codes back. -/
theorem Block.process_seal {b : Block} {st : Byte} {h t : Code20} (hst : st.getLsbD 6 = false)
    (hb : b.payload = Payload.seal st h t) :
    b.process.result = .ok ∧ b.process.humRaw = h ∧ b.process.tempRaw = t := by
  have hok : processResult b.variant b.payload = .ok := hb ▸ processResult_seal hst b.variant h t
  have hcodes := Block.process_of_ok hok
  rwa [hb, Payload.seal, Payload.pack_humRaw, Payload.pack_tempRaw] at hcodes

end Sys2Proof.Machine
end

section
/-! SUPPORT. The host's units against codes (41_process.md R110, R111, R114): a distance in units is a
number of code steps, and the test encoder's code is within one step of its target. -/

namespace Sys2Proof.Machine

theorem code_le_top (c : Code20) : (c.toNat : Rat) ≤ 1048575 := by
  have hc : c.toNat ≤ 1048575 := by omega
  exact_mod_cast hc

theorem humidity_bounds (h : Code20) : 0 ≤ humidity h ∧ humidity h ≤ 100 - 100 / 2 ^ 20 := by
  have hpos : (0 : Rat) ≤ h.toNat := Nat.cast_nonneg _
  have htop := code_le_top h
  rw [humidity]
  exact ⟨by linarith, by linarith⟩

theorem temperature_bounds (t : Code20) :
    -50 ≤ temperature t ∧ temperature t ≤ 150 - 200 / 2 ^ 20 := by
  have hpos : (0 : Rat) ≤ t.toNat := Nat.cast_nonneg _
  have htop := code_le_top t
  rw [temperature]
  exact ⟨by linarith, by linarith⟩

/-- A distance in humidity is a number of code steps of 100/2^20 %RH. -/
theorem abs_humidity_sub (c : Code20) (H : Rat) :
    |humidity c - H| = 100 / 2 ^ 20 * |(c.toNat : Rat) - humTarget H| := by
  have hsteps : humidity c - H = 100 / 2 ^ 20 * ((c.toNat : Rat) - humTarget H) := by
    rw [humidity, humTarget]
    ring
  rw [hsteps, abs_mul, abs_of_pos (by norm_num)]

/-- A distance in temperature is a number of code steps of 200/2^20 °C. -/
theorem abs_temperature_sub (c : Code20) (T : Rat) :
    |temperature c - T| = 200 / 2 ^ 20 * |(c.toNat : Rat) - tempTarget T| := by
  have hsteps : temperature c - T = 200 / 2 ^ 20 * ((c.toNat : Rat) - tempTarget T) := by
    rw [temperature, tempTarget]
    ring
  rw [hsteps, abs_mul, abs_of_pos (by norm_num)]

theorem clampCode_toNat {n : Int} (h0 : 0 ≤ n) (h : n ≤ 0xFFFFF) :
    ((clampCode n).toNat : Int) = n := by
  rw [clampCode, BitVec.toNat_ofNat]
  omega

theorem clampCode_toNat_of_gt {n : Int} (h : 0xFFFFF < n) : (clampCode n).toNat = 0xFFFFF := by
  rw [clampCode, BitVec.toNat_ofNat]
  omega

/-- A nearest integer of a target that is not negative is not negative, however ties go. -/
theorem IsNearest.nonneg {x : Rat} {n : Int} (hn : IsNearest x n) (hx : 0 ≤ x) : 0 ≤ n := by
  obtain ⟨-, hup⟩ := abs_le.1 hn
  have hlow : ((-1 : Int) : Rat) < n := by push_cast; linarith
  have := Int.cast_lt.1 hlow
  omega

/-- Where the clamp does not act, the code is within half a step of its target. -/
theorem abs_clampCode_sub_le {x : Rat} {n : Int} (hn : IsNearest x n) (hx : 0 ≤ x)
    (hle : n ≤ 0xFFFFF) : |((clampCode n).toNat : Rat) - x| ≤ 1 / 2 := by
  have hcode : ((clampCode n).toNat : Rat) = n := by
    exact_mod_cast clampCode_toNat (hn.nonneg hx) hle
  rw [hcode, abs_sub_comm]
  exact hn

/-- Where the clamp acts, the target lies less than a step above the top code. -/
theorem abs_clampCode_sub_lt {x : Rat} {n : Int} (hn : IsNearest x n) (hx : x < 2 ^ 20)
    (hgt : 0xFFFFF < n) : |((clampCode n).toNat : Rat) - x| < 1 := by
  obtain ⟨hlow, -⟩ := abs_le.1 hn
  have hn' : (0x100000 : Rat) ≤ n := by exact_mod_cast hgt
  rw [clampCode_toNat_of_gt hgt, abs_lt]
  constructor <;> norm_num <;> linarith

end Sys2Proof.Machine
end

section
/-! The obligations of 41_process.md settled here. -/

namespace Sys2Proof.Machine

/-- Settles O36: each code is a slice of the payload and the same bits of its bytes. -/
theorem payloadLayout : Obligations.PayloadLayout := by
  intro p
  have hp0 : p.p0 = p.word.extractLsb' 48 8 := by
    apply BitVec.eq_of_toNat_eq
    rw [toNat_extractLsb', p.word_toNat]
    omega
  exact ⟨hp0, p.humRaw_eq_slice, p.tempRaw_eq_slice, BitVec.extractLsb'_append_eq_right.symm,
    p.humRaw_eq_slice.symm.trans p.humRaw_eq_append,
    p.tempRaw_eq_slice.symm.trans p.tempRaw_eq_append⟩

/-- Settles O37: the two forms of each sum are one number. -/
theorem codesInArithmetic : Obligations.CodesInArithmetic := by
  intro p
  refine ⟨p.humRaw_toNat, ?_, p.tempRaw_toNat, ?_⟩
  · rw [p.humRaw_toNat]
    omega
  · rw [p.tempRaw_toNat]
    omega

/-- Settles O38: the bytes as slices of the codes, and packing in both directions. -/
theorem codesAndBytesBiject : Obligations.CodesAndBytesBiject :=
  ⟨Payload.bytes_of_codes, fun st crc h t =>
    ⟨Payload.pack_humRaw st h t crc, Payload.pack_tempRaw st h t crc⟩, Payload.pack_codes⟩

/-- Settles O39: CRC_ACC, RESULT and the codes are read off `Block.process`, whose outcome is decided by
the busy bit and then by the CRC; the payload of PR-01 is sealed. -/
theorem processOutcomes : Obligations.ProcessOutcomes := by
  refine ⟨fun w => decode_eq_decode_write_iff (w' := 0x2B01#14) rfl, fun s => ⟨_, exec_cmdProcess s,
    rfl, fun hbusy => ?_, fun hbusy hv hcrc => ?_, fun hbusy hpass => ?_, ?_, ?_⟩, fun s hp hv => ?_⟩
  · exact Block.process_of_failed
      (processResult_timeout.2 ((Payload.busy_eq_getLsbD _).trans hbusy)) (by decide)
  · exact Block.process_of_failed (processResult_badcrc.2
      ⟨(Payload.busy_eq_getLsbD _).trans hbusy, hv, Payload.crcOk_eq_false.2 hcrc⟩) (by decide)
  · exact Block.process_of_ok (processResult_ok.2
      ⟨(Payload.busy_eq_getLsbD _).trans hbusy, hpass.imp_right (beq_iff_eq.2 ·)⟩)
  · exact congrArg s.committed s.block.process_frame
  · rw [exec_cmdProcess, State.committed_block, Block.process_process]
    rfl
  · have hseal : s.block.payload = Payload.seal 0x08#8 0x73333#20 0x60000#20 := by
      rw [hp]
      decide +kernel
    refine ⟨_, exec_cmdProcess s, ?_, Block.process_seal rfl hseal⟩
    rw [State.committed_block, Block.process_crcAcc, hp]
    decide +kernel

/-- Settles O40: P6 is read by the CRC check alone, which AHT1x does not make. -/
theorem variantGatesTheCrcCheck : Obligations.VariantGatesTheCrcCheck := by
  refine ⟨fun s x hv => ⟨_, _, exec_cmdProcess s, exec_cmdProcess _, ?_, ?_⟩, fun s hv hbusy =>
    ⟨_, exec_cmdProcess s, ?_⟩⟩
  · simp only [State.committed_block, Block.process_results, hv, processResult_aht1x]
    rfl
  · simp [processResult_badcrc, hv]
  · rw [State.committed_block, Block.process_result, processResult_badcrc, Payload.crcOk_eq_false,
      Payload.busy_eq_getLsbD]
    exact ⟨fun ⟨_, _, hcrc⟩ => hcrc, fun hcrc => ⟨hbusy, hv, hcrc⟩⟩

/-- Settles O44: the codes run from 0 to 2^20 - 1, and five are evaluated. -/
theorem engineeringUnits : Obligations.EngineeringUnits := by
  refine ⟨fun h => ⟨?_, humidity_bounds h⟩, ?_, ?_, fun t => ⟨?_, temperature_bounds t⟩, ?_, ?_, ?_⟩
  · rw [humidity]
    ring
  · norm_num [humidity]
  · norm_num [humidity]
  · rw [temperature]
    ring
  · norm_num [temperature]
  · norm_num [temperature]
  · norm_num [temperature]

/-- Settles O45: PROCESS gives the clamped codes back, and their distance from the targets is the units'
distance in code steps. -/
theorem encodeProcessRoundTrip : Obligations.EncodeProcessRoundTrip := by
  intro s st H T m n hH0 hH1 hT0 hT1 hm hn hst hp
  have hhum0 : 0 ≤ humTarget H := by rw [humTarget]; linarith
  have hhum1 : humTarget H < 2 ^ 20 := by rw [humTarget]; linarith
  have htemp0 : 0 ≤ tempTarget T := by rw [tempTarget]; linarith
  have htemp1 : tempTarget T < 2 ^ 20 := by rw [tempTarget]; linarith
  obtain ⟨hok, hh, ht⟩ := Block.process_seal hst hp
  refine ⟨_, exec_cmdProcess s, hok, ?_⟩
  simp only [State.committed_block, hh, ht, abs_humidity_sub, abs_temperature_sub]
  refine ⟨fun hle => ?_, fun hgt => ?_, fun hle => ?_, fun hgt => ?_⟩
  · linarith [abs_clampCode_sub_le hm hhum0 hle]
  · linarith [abs_clampCode_sub_lt hm hhum1 hgt]
  · linarith [abs_clampCode_sub_le hn htemp0 hle]
  · linarith [abs_clampCode_sub_lt hn htemp1 hgt]

end Sys2Proof.Machine
end

section
/-! SUPPORT. CRC-8 loses nothing (42_crc.md R120 to R123): a shift can be undone because the polynomial has
bit 0 set, so an update is injective in the accumulator and in the byte, and so is the CRC of a sequence in
its initial value and in any one of its bytes. -/

namespace Sys2Proof.Machine

/-! ## One shift -/

/-- The bit dropped at the top comes back at the bottom: bit 0 of the polynomial is set. -/
theorem getLsbD_zero_crc8Shift (c : Byte) : (crc8Shift c).getLsbD 0 = c.getLsbD 7 := by
  unfold crc8Shift
  split <;> simp_all [crcPoly]

theorem crc8Shift_injective : Function.Injective crc8Shift := by
  intro c c' h
  have htop : c.getLsbD 7 = c'.getLsbD 7 := by
    rw [← getLsbD_zero_crc8Shift, h, getLsbD_zero_crc8Shift]
  have hshl : c <<< 1 = c' <<< 1 := by
    rw [crc8Shift, crc8Shift, htop] at h
    split at h
    · exact (BitVec.xor_left_inj _).1 h
    · exact h
  apply BitVec.eq_of_getElem_eq
  intro i hi
  rcases Nat.lt_or_ge i 7 with hlow | hhigh
  · simpa [Nat.succ_lt_succ hlow] using congrArg (·.getLsbD (i + 1)) hshl
  · obtain rfl : i = 7 := by omega
    simpa using htop

theorem crc8Shifts_injective (n : Nat) : Function.Injective (crc8Shifts n) := by
  induction n with
  | zero => exact fun _ _ h => h
  | succ n ih => exact ih.comp crc8Shift_injective

/-! ## One update -/

theorem crc8Update_eq_zero_xor (c b : Byte) : crc8Update c b = crc8Update 0 (c ^^^ b) := by
  simp [crc8Update]

theorem crc8Update_comm (c b : Byte) : crc8Update c b = crc8Update b c := by
  rw [crc8Update, BitVec.xor_comm, ← crc8Update]

@[simp] theorem crc8Update_self (c : Byte) : crc8Update c c = 0x00#8 := by
  rw [crc8Update, BitVec.xor_self]
  rfl

theorem crc8Update_right_injective (c : Byte) : Function.Injective (crc8Update c) := by
  intro b b' h
  exact (BitVec.xor_right_inj _).1 (crc8Shifts_injective 8 h)

theorem crc8Update_left_bijective (b : Byte) : Function.Bijective fun c => crc8Update c b := by
  simp only [crc8Update_comm _ b]
  exact Finite.injective_iff_bijective.1 (crc8Update_right_injective b)

/-! ## A sequence -/

theorem crc8_left_injective (bs : List Byte) : Function.Injective fun init => crc8 init bs := by
  induction bs with
  | nil => exact fun _ _ h => h
  | cons b bs ih => exact ih.comp (crc8Update_left_bijective b).injective

/-- No two values of one byte give the same CRC, wherever in the sequence the byte stands. -/
theorem crc8_set_injective (init : Byte) {bs : List Byte} {i : Nat} (hi : i < bs.length) :
    Function.Injective fun d => crc8 init (bs.set i d) := by
  intro d d' h
  simp only [List.set_eq_take_append_cons_drop, hi, if_true, crc8_append] at h
  exact crc8Update_right_injective _ (crc8_left_injective _ h)

/-- The residue of a sequence followed by its CRC. -/
theorem crc8_append_crc8 (init : Byte) (m : List Byte) : crc8 init (m ++ [crc8 init m]) = 0x00#8 := by
  rw [crc8_append]
  exact crc8Update_self _

/-! ## The payload's CRC -/

/-- Setting byte `n` of the payload sets byte `n` of what the CRC covers; P6 is not covered. -/
theorem Payload.crcBytes_set (p : Payload) (n : Fin 7) (d : Byte) :
    (p.set n d).crcBytes = p.crcBytes.set n d := by
  fin_cases n <;> rfl

theorem Payload.set_get (p : Payload) (n : Fin 7) : p.set n (p.get n) = p := by
  fin_cases n <;> rfl

theorem Payload.crc_set_injective (p : Payload) {n : Fin 7} (hn : n.val < 6) :
    Function.Injective fun d => (p.set n d).crc := by
  simp only [Payload.crc, Payload.crcBytes_set]
  exact crc8_set_injective crcInit hn

/-- The seven bytes of a payload that passes the CRC check have residue 0. -/
theorem Payload.residue_of_crcOk {p : Payload} (h : p.crcOk = true) :
    crc8 crcInit (p.crcBytes ++ [p.p6]) = 0x00#8 := by
  rw [← beq_iff_eq.1 h]
  exact crc8_append_crc8 crcInit p.crcBytes

/-! ## The engine's accumulator and PROCESS -/

/-- PROCESS does not read CRC_ACC (R127). -/
@[simp] theorem Block.process_setCrcAcc (b : Block) (c : Byte) :
    (b.setCrcAcc c).process = b.process := by
  simp only [Block.process, Block.recordOutcome, Block.setCrcAcc_payload, Block.setCrcAcc_variant]
  cases processResult b.variant b.payload <;> rfl

end Sys2Proof.Machine
end

section
/-! The obligations of 42_crc.md settled here. -/

namespace Sys2Proof.Machine

/-- Settles O47: each property but the two corner values is one of the laws of the update, of a sequence
or of the payload's CRC. -/
theorem crcProperties : Obligations.CrcProperties := by
  refine ⟨crc8Update_eq_zero_xor, crc8_append_crc8 0xFF#8, fun _ => Payload.residue_of_crcOk,
    crc8_append_crc8 0xFF#8 [], rfl, crc8Update_left_bijective, fun p n d hn hd h => hd ?_⟩
  exact p.crc_set_injective hn (h.trans (congrArg Payload.crc (p.set_get n)).symm)

/-- Settles O49: the words are those of the read and the write at 0x0A and of the command 0x02, and the
corner values are evaluated. -/
theorem crcEngineTransactions : Obligations.CrcEngineTransactions :=
  ⟨fun w => ⟨decode_eq_decodeRead_iff 0x0A#5 w, decode_eq_decodeWrite_iff 0x0A#5 w,
      decode_eq_decode_write_iff (w' := 0x2B02#14) rfl⟩,
    fun _ => rfl, fun _ _ => rfl, fun _ => rfl,
    crc8Update_self 0xFF#8, crc8Update_self 0x00#8, by decide +kernel, by decide +kernel⟩

/-- Settles O41: `Block.process` is the same from both states, whatever was streamed. -/
theorem processNeverReadsCrcAcc : Obligations.ProcessNeverReadsCrcAcc := by
  intro s x
  refine ⟨_, exec_cmdProcess s, ?_, s.block.process_crcAcc⟩
  rw [exec_cmdProcess, ← Block.process_setCrcAcc s.block x]
  rfl

end Sys2Proof.Machine
end

section
/-! SUPPORT. The words of a reserved row of CMD (30_encoding.md R63, R65): the row's mask and pattern on D
give the range of its codes, the decoder tells the rows apart by their ranges, and all have one effect. -/

namespace Sys2Proof

/-- A value exceeds what a mask leaves of it by no more than the bits the mask takes away. -/
theorem inRange_of_and {n : Nat} {v m p : BitVec n} (h : v &&& m = p) :
    inRange p.toNat (p.toNat + (~~~m).toNat) v = true := by
  have hdisjoint : v &&& m &&& (v &&& ~~~m) = 0#n := by
    rw [BitVec.and_assoc, BitVec.and_comm v (~~~m), ← BitVec.and_assoc m, BitVec.and_not_self,
      BitVec.ofNat_eq_ofNat, BitVec.zero_and, BitVec.and_zero]
  have hsplit : (v &&& m) + (v &&& ~~~m) = v := by
    rw [BitVec.add_eq_or_of_and_eq_zero _ _ hdisjoint, ← BitVec.and_or_distrib_left,
      BitVec.or_not_self, BitVec.and_allOnes]
  have hlo : p.toNat ≤ v.toNat := by
    rw [← h]
    exact Nat.and_le_left
  have hhi : v.toNat ≤ p.toNat + (~~~m).toNat := by
    calc v.toNat = (p + (v &&& ~~~m)).toNat := by rw [← h, hsplit]
      _ ≤ p.toNat + (v &&& ~~~m).toNat := Nat.mod_le _ _
      _ ≤ p.toNat + (~~~m).toNat := Nat.add_le_add_left Nat.and_le_right _
  exact decide_eq_true ⟨hlo, hhi⟩

/-- A code above the four commands is reserved, and its size gives its row. -/
theorem decodeCommand_reserved {d : Byte} (h : 4 ≤ d.toNat) : decodeCommand d =
    if d.toNat < 0x08 then .cmdRsvd04 d else if d.toNat < 0x10 then .cmdRsvd08 d
    else if d.toNat < 0x20 then .cmdRsvd10 d else if d.toNat < 0x40 then .cmdRsvd20 d
    else if d.toNat < 0x80 then .cmdRsvd40 d else .cmdRsvd80 d := by
  unfold decodeCommand
  split
  case h_5 => rfl
  all_goals omega

/-- The six reserved rows of CMD with the code `d`, whichever of them it lies in. -/
def reservedCommands (d : Byte) : List Instr :=
  [.cmdRsvd04 d, .cmdRsvd08 d, .cmdRsvd10 d, .cmdRsvd20 d, .cmdRsvd40 d, .cmdRsvd80 d]

theorem mem_reservedCommands {d : Byte} {i : Instr} : i ∈ reservedCommands d ↔
    i = .cmdRsvd04 d ∨ i = .cmdRsvd08 d ∨ i = .cmdRsvd10 d ∨ i = .cmdRsvd20 d ∨ i = .cmdRsvd40 d ∨
      i = .cmdRsvd80 d := by
  simp [reservedCommands]

/-- The decoder answers the reserved row in whose range the code is. -/
theorem decodeCommand_of_wellFormed {d : Byte} {i : Instr} (hi : i ∈ reservedCommands d)
    (hwf : i.wellFormed = true) : decodeCommand d = i := by
  rcases mem_reservedCommands.1 hi with rfl | rfl | rfl | rfl | rfl | rfl
  all_goals
    simp only [Instr.wellFormed, inRange, decide_eq_true_eq] at hwf
    rw [decodeCommand_reserved (by omega)]
    simp (disch := omega) only [if_pos, if_neg]

/-- The words of the reserved row of CMD whose codes have the bits `m` of D equal to `p`. -/
theorem decode_eq_reservedCommand_iff {f : Byte → Instr} {m p : Byte}
    (hf : ∀ d, f d ∈ reservedCommands d)
    (hrow : ∀ d, (f d).tableRow = ⟨mkWord true 0x0B#5 p, mkWord true 0x1F#5 m⟩)
    (hwf : ∀ d, (f d).wellFormed = inRange p.toNat (p.toNat + (~~~m).toNat) d) (w : TWord) :
    decode w = f (wordData w) ↔ w &&& mkWord true 0x1F#5 m = mkWord true 0x0B#5 p := by
  constructor
  · intro h
    have hcov := covers_decode w
    rw [h, hrow] at hcov
    exact eq_of_beq hcov
  · intro h
    have haddr : wordAddr w &&& 0x1F#5 = wordAddr w := BitVec.and_allOnes
    rw [← mkWord_fields w, mkWord_and, Bool.and_true, haddr, mkWord_inj] at h
    obtain ⟨hwr, ha, hd⟩ := h
    calc decode w = decode (mkWord true 0x0B#5 (wordData w)) := by rw [← hwr, ← ha, mkWord_fields]
      _ = decodeCommand (wordData w) := decode_mkWord_write _ _
      _ = f (wordData w) :=
        decodeCommand_of_wellFormed (hf _) ((hwf _).trans (inRange_of_and hd))

end Sys2Proof

namespace Sys2Proof.Machine

/-- Every reserved command code has the same effect (R142). -/
theorem exec_reservedCommand {d : Byte} {i : Instr} (hi : i ∈ reservedCommands d) (s : State) :
    exec i s = .next (s.committed (s.block.setIllegal true)) := by
  rcases mem_reservedCommands.1 hi with rfl | rfl | rfl | rfl | rfl | rfl <;> rfl

end Sys2Proof.Machine
end

section
/-! The obligations of 43_control_commands.md settled here. -/

namespace Sys2Proof.Machine

/-- Settles O51: the word is a write's, and the answer is the committed block written out. -/
theorem clearClearsResultsAndIllegal : Obligations.ClearClearsResultsAndIllegal :=
  ⟨fun _ => decode_eq_decode_write_iff (w' := 0x2B03#14) rfl, fun _ => rfl⟩

/-- Settles O52: each row's mask and pattern are read off the opcode table, and the effect is the one
all six rows share. -/
theorem reservedCommandsSetIllegal : Obligations.ReservedCommandsSetIllegal := by
  refine ⟨fun w => ⟨?_, ?_, ?_, ?_, ?_, ?_⟩, fun _ _ hi s => exec_reservedCommand hi s⟩
  · exact decode_eq_reservedCommand_iff (f := .cmdRsvd04) (m := 0xFC#8) (p := 0x04#8)
      (by simp [mem_reservedCommands]) (fun _ => rfl) (fun _ => rfl) w
  · exact decode_eq_reservedCommand_iff (f := .cmdRsvd08) (m := 0xF8#8) (p := 0x08#8)
      (by simp [mem_reservedCommands]) (fun _ => rfl) (fun _ => rfl) w
  · exact decode_eq_reservedCommand_iff (f := .cmdRsvd10) (m := 0xF0#8) (p := 0x10#8)
      (by simp [mem_reservedCommands]) (fun _ => rfl) (fun _ => rfl) w
  · exact decode_eq_reservedCommand_iff (f := .cmdRsvd20) (m := 0xE0#8) (p := 0x20#8)
      (by simp [mem_reservedCommands]) (fun _ => rfl) (fun _ => rfl) w
  · exact decode_eq_reservedCommand_iff (f := .cmdRsvd40) (m := 0xC0#8) (p := 0x40#8)
      (by simp [mem_reservedCommands]) (fun _ => rfl) (fun _ => rfl) w
  · exact decode_eq_reservedCommand_iff (f := .cmdRsvd80) (m := 0x80#8) (p := 0x80#8)
      (by simp [mem_reservedCommands]) (fun _ => rfl) (fun _ => rfl) w

/-- Settles O50: the word is a write's, and both instructions commit the block as it is. -/
theorem nopChangesNothing : Obligations.NopChangesNothing :=
  ⟨fun _ => decode_eq_decode_write_iff (w' := 0x2B00#14) rfl, fun _ => rfl, fun _ _ => rfl⟩

end Sys2Proof.Machine
end

section
/-! SUPPORT. Decoding what an instruction encodes to (30_encoding.md R63 to R65): the word's fields are the
instruction's, so each row asks for the decoder's answer at the row's own address and data. -/

namespace Sys2Proof

open Laws.EncodesIntoRow (inRow14 inRow18)

/-- The encoding is decoded by the column of the instruction's W, at its A and D. -/
theorem decode_encode_eq_columns (i : Instr) :
    decode (encode i) = if i.isWrite then decodeWrite i.addr i.data else decodeRead i.addr := by
  rw [decode, encode_isWrite, encode_addr, encode_data]

/-- A reserved command is what the decoder answers for its code. -/
theorem decode_encode_reservedCommand {d : Byte} {i : Instr} (hi : i ∈ reservedCommands d)
    (hwf : i.wellFormed = true) : decode (encode i) = i := by
  have hcolumn : decode (encode i) = decodeCommand d := by
    rw [decode_encode_eq_columns]
    rcases mem_reservedCommands.1 hi with rfl | rfl | rfl | rfl | rfl | rfl <;> rfl
  rw [hcolumn, decodeCommand_of_wellFormed hi hwf]

/-- A row of one address and, at CMD, of one code is decoded by its number; a row of several by the range
its check states. -/
theorem decode_encode {i : Instr} (hwf : i.wellFormed = true) : decode (encode i) = i := by
  cases i with
  | cmdRsvd04 d | cmdRsvd08 d | cmdRsvd10 d | cmdRsvd20 d | cmdRsvd40 d | cmdRsvd80 d =>
    exact decode_encode_reservedCommand (d := d) (by simp [reservedCommands]) hwf
  | rdRsvd14 a => exact (decode_encode_eq_columns _).trans (decodeRead_rsvd14 a (inRow14 a hwf))
  | rdRsvd18 a => exact (decode_encode_eq_columns _).trans (decodeRead_rsvd18 a (inRow18 a hwf))
  | wrRsvd14 a d => exact (decode_encode_eq_columns _).trans (decodeWrite_rsvd14 a d (inRow14 a hwf))
  | wrRsvd18 a d => exact (decode_encode_eq_columns _).trans (decodeWrite_rsvd18 a d (inRow18 a hwf))
  | _ => exact decode_encode_eq_columns _

theorem decodeBits_of_lt {n : Nat} (h : n < 2 ^ 14) :
    decodeBits n = .ok (decode (BitVec.ofNat 14 n)) := if_pos h

theorem decodeBits_of_le {n : Nat} (h : 2 ^ 14 ≤ n) : decodeBits n = .error .widerThanAWord :=
  if_neg (Nat.not_lt.2 h)

end Sys2Proof
end

section
/-! The obligations of 30_encoding.md settled here. -/

namespace Sys2Proof.Machine

/-- Settles O1, row by row: the decoder answers each row at the row's own address and data. -/
theorem decodeEncodeRoundTrip : Obligations.DecodeEncodeRoundTrip := fun _ => decode_encode

/-- Settles O2: decoding loses the D of a read and nothing else, and clearing D is masking W and A. -/
theorem encodeDecodeGivesTheWordBack : Obligations.EncodeDecodeGivesTheWordBack := by
  intro w
  rw [word_and_maskWA, encode_decode, wordIsWrite]
  split_ifs with hw
  · rfl
  · rw [Bool.eq_false_of_not_eq_true hw]

/-- Settles O4, from the check on each column of the decoder and the bound of 14 bits. -/
theorem decodingIsTotalAndWellFormed : Obligations.DecodingIsTotalAndWellFormed :=
  ⟨wellFormed_decode, fun _ hn => ⟨_, decodeBits_of_lt hn, rfl⟩, fun _ => decodeBits_of_le⟩

/-- Settles O7: each word is the encoding of the instruction it stands for. -/
theorem wordsOfTheSpecDecode : Obligations.WordsOfTheSpecDecode :=
  ⟨decode_encode (i := .wrPayload3 0x5A#8) rfl, decode_encode (i := .rdStatus) rfl,
    decode_encode (i := .cmdProcess) rfl, decode_encode (i := .wrCtrl 0x03#8) rfl,
    decode_encode (i := .rdCrc) rfl, decode_encode (i := .wrCrc 0x31#8) rfl,
    decode_encode (i := .wrRoHum0 0xFF#8) rfl, decode_encode (i := .cmdRsvd80 0xAC#8) rfl,
    decode_encode (i := .rdRsvd18 0x1F#5) rfl, decode_encode (i := .wrRsvd07 0xAA#8) rfl,
    decode_encode (i := .rdHum2) rfl, decode_encode (i := .rdTemp2) rfl⟩

/-- Settles O9, by running the assembler on each line. -/
theorem assemblerLines : Obligations.AssemblerLines := by
  unfold Obligations.AssemblerLines
  decide +kernel

end Sys2Proof.Machine
end

section
/-! SUPPORT. What runs keep and record (10_state.md, 20_memory.md section 4): the elements a cycle cannot
change, and what the host has observed, over one cycle and over a run. -/

namespace Sys2Proof.Machine

/-! ## What a cycle keeps -/

theorem BlockChange.results_eq {b b' : Block} {c : HostCycle} (h : BlockChange b c b')
    (hc : c.setsResults = false) : b'.results = b.results := by
  cases h with
  | reset hr => simp [HostCycle.setsResults, hr] at hc
  | process | clear => cases hc
  | _ => rfl

theorem BlockChange.payload_eq {b b' : Block} {c : HostCycle} (h : BlockChange b c b')
    (hc : c.setsPayload = false) : b'.payload = b.payload := by
  cases h with
  | reset hr => simp [HostCycle.setsPayload, hr] at hc
  | payload n d ha => simp [HostCycle.setsPayload, ha] at hc
  | process => exact b.process_payload
  | _ => rfl

theorem BlockChange.variant_eq {b b' : Block} {c : HostCycle} (h : BlockChange b c b')
    (hc : c.setsVariant = false) : b'.variant = b.variant := by
  cases h with
  | reset hr => simp [HostCycle.setsVariant, hr] at hc
  | variant => cases hc
  | process => exact b.process_variant
  | _ => rfl

/-! ## What a run keeps and records -/

theorem foldl_afterCycle_results {cs : List HostCycle} (hcs : ∀ c ∈ cs, c.setsResults = false)
    (s : State) : (cs.foldl State.afterCycle s).block.results = s.block.results := by
  induction cs generalizing s with
  | nil => rfl
  | cons c cs ih =>
    obtain ⟨hc, hcs⟩ := List.forall_mem_cons.1 hcs
    exact (ih hcs (s.afterCycle c)).trans ((blockChange_effect s.block c).results_eq hc)

/-- A cycle records one byte when it is a read, none otherwise. -/
theorem HostCycle.length_reads (c : HostCycle) (b : Block) :
    (c.reads b).length = if c.isRead then 1 else 0 := by
  rw [HostCycle.reads, ← HostCycle.isRead]
  split <;> rfl

/-- A run appends to what the host has observed, one byte for each of its reads. -/
theorem foldl_afterCycle_observed (cs : List HostCycle) (s : State) :
    ∃ os : List Byte, (cs.foldl State.afterCycle s).observed = s.observed ++ os ∧
      os.length = cs.countP HostCycle.isRead := by
  induction cs generalizing s with
  | nil => exact ⟨[], (List.append_nil _).symm, rfl⟩
  | cons c cs ih =>
    obtain ⟨os, hos, hlen⟩ := ih (s.afterCycle c)
    refine ⟨c.reads s.block ++ os, ?_, ?_⟩
    · rw [List.foldl_cons, hos, ← List.append_assoc]
      rfl
    · rw [List.length_append, HostCycle.length_reads, hlen, List.countP_cons, Nat.add_comm]

/-- The byte a cycle adds to what the host has observed is the one it drives. -/
theorem afterCycle_observed_cases (s : State) (c : HostCycle) :
    (s.afterCycle c).observed = s.observed ∨
      (s.afterCycle c).observed = s.observed ++ [(s.afterCycle c).rdata] := by
  simp only [State.afterCycle, HostCycle.reads, HostCycle.drives]
  split
  · exact .inr rfl
  · exact .inl (List.append_nil _)

/-! ## Split reads (20_memory.md section 4) -/

theorem afterCycle_memRead (s : State) (a : RegAddr) :
    s.afterCycle (.memRead a) = s.answered (s.block.readReg a) :=
  afterCycle_read s rfl rfl rfl

/-- What the register at `a` shows is made of RESULT and the codes alone. -/
def ShowsResults (a : RegAddr) : Prop :=
  ∃ f : ProcessResult × Code20 × Code20 → Byte, ∀ b : Block, b.readReg a = f b.results

/-- A read and then cycles that keep the results: the host observes the register first, and the results
stay. -/
theorem foldl_afterCycle_memRead (a : RegAddr) {cs : List HostCycle}
    (hcs : ∀ c ∈ cs, c.setsResults = false) (s : State) :
    ∃ (t : State) (os : List Byte), (HostCycle.memRead a :: cs).foldl State.afterCycle s = t ∧
      t.observed = s.observed ++ s.block.readReg a :: os ∧
      os.length = cs.countP HostCycle.isRead ∧ t.block.results = s.block.results := by
  obtain ⟨os, hos, hlen⟩ := foldl_afterCycle_observed cs (s.answered (s.block.readReg a))
  refine ⟨_, os, rfl, ?_, hlen, ?_⟩
  · rw [List.foldl_cons, afterCycle_memRead, hos, State.answered_observed, List.append_assoc]
    rfl
  · rw [List.foldl_cons, afterCycle_memRead, foldl_afterCycle_results hcs, State.answered_block]

/-- Three reads in a run answer what the registers showed when it began, if the cycles between keep the
results and the later two registers show nothing else. -/
theorem observed_splitReads {a0 a1 a2 : RegAddr} (h1 : ShowsResults a1) (h2 : ShowsResults a2)
    {cs ds : List HostCycle} (hcs : ∀ c ∈ cs, c.setsResults = false)
    (hds : ∀ c ∈ ds, c.setsResults = false) (s : State) :
    ∃ (t : State) (os ps : List Byte),
      runCycles (.memRead a0 :: cs ++ .memRead a1 :: ds ++ [.memRead a2]) s = .next t ∧
      t.observed = s.observed ++ s.block.readReg a0 :: os ++ s.block.readReg a1 :: ps ++
        [s.block.readReg a2] ∧
      os.length = cs.countP HostCycle.isRead ∧ ps.length = ds.countP HostCycle.isRead := by
  obtain ⟨f1, hf1⟩ := h1
  obtain ⟨f2, hf2⟩ := h2
  obtain ⟨u, os, hu, hos, hoslen, hures⟩ :=
    foldl_afterCycle_memRead a0 hcs { s with pending := [] }
  obtain ⟨v, ps, hv, hps, hpslen, hvres⟩ := foldl_afterCycle_memRead a1 hds u
  refine ⟨v.afterCycle (.memRead a2), os, ps, ?_, ?_, hoslen, hpslen⟩
  · rw [runCycles_eq_foldl, List.foldl_append, List.foldl_append, hu, hv]
    rfl
  · rw [afterCycle_memRead, State.answered_observed, hps, hos, hf1, hf2, hvres, hures,
      ← hf1, ← hf2]

/-! ## The bytes of a code -/

/-- The three bytes of a code make it up (20_memory.md R45). -/
theorem joinCode_codeBytes (c : Code20) :
    joinCode (codeByte0 c) (codeByte1 c) (codeByte2 c) = c := by
  apply BitVec.eq_of_toNat_eq
  have hc := c.isLt
  rw [joinCode, toNat_append_byte, toNat_append_byte, toNat_extractLsb', codeByte0_eq_ofNat,
    codeByte1_eq_ofNat, codeByte2_eq_ofNat]
  simp only [BitVec.toNat_ofNat]
  omega

theorem readReg_hum0 (b : Block) : b.readReg 0x0C#5 = codeByte0 b.humRaw := rfl

theorem readReg_hum1 (b : Block) : b.readReg 0x0D#5 = codeByte1 b.humRaw := rfl

theorem readReg_hum2 (b : Block) : b.readReg 0x0E#5 = codeByte2 b.humRaw :=
  (codeByte2_eq_append b.humRaw).symm

theorem readReg_temp0 (b : Block) : b.readReg 0x10#5 = codeByte0 b.tempRaw := rfl

theorem readReg_temp1 (b : Block) : b.readReg 0x11#5 = codeByte1 b.tempRaw := rfl

theorem readReg_temp2 (b : Block) : b.readReg 0x12#5 = codeByte2 b.tempRaw :=
  (codeByte2_eq_append b.tempRaw).symm

theorem joinCode_readReg_hum (b : Block) :
    joinCode (b.readReg 0x0C#5) (b.readReg 0x0D#5) (b.readReg 0x0E#5) = b.humRaw := by
  rw [readReg_hum0, readReg_hum1, readReg_hum2, joinCode_codeBytes]

theorem joinCode_readReg_temp (b : Block) :
    joinCode (b.readReg 0x10#5) (b.readReg 0x11#5) (b.readReg 0x12#5) = b.tempRaw := by
  rw [readReg_temp0, readReg_temp1, readReg_temp2, joinCode_codeBytes]

end Sys2Proof.Machine
end

section
/-! SUPPORT. An instruction as the cycle that presents its word (20_memory.md R41), and writes repeated
(20_memory.md section 4). -/

namespace Sys2Proof.Machine

/-- A well-formed instruction runs as the cycle that presents its word. -/
theorem exec_eq_afterCycle {i : Instr} (hwf : i.wellFormed = true) (s : State) :
    exec i s = .next (s.afterCycle ⟨true, true, i.isWrite, i.addr, i.data⟩) := by
  calc exec i s
    _ = exec (decode (encode i)) s := by rw [decode_encode hwf]
    _ = busCycle ⟨true, true, i.isWrite, i.addr, i.data⟩ s := rfl
    _ = .next (s.afterCycle ⟨true, true, i.isWrite, i.addr, i.data⟩) := busCycle_eq_afterCycle _ s

/-- A command repeated leaves the block the first left: PROCESS reads nothing it writes, the others set
constants. -/
theorem Block.command_command (b : Block) (d : Byte) : (b.command d).command d = b.command d := by
  unfold Block.command
  split
  case h_2 => simp only [Block.processInOrder_eq_process, Block.process_process]
  case h_5 => simp [*]
  all_goals rfl

/-- A write repeated leaves the block the first left, at every address but that of the CRC feed. -/
theorem Block.writeReg_writeReg (b : Block) {a : RegAddr} (d : Byte) (ha : a ≠ 0x0A#5) :
    (b.writeReg a d).writeReg a d = b.writeReg a d := by
  unfold Block.writeReg
  split
  case h_9 h => exact absurd (BitVec.eq_of_toNat_eq h) ha
  case h_10 => exact b.command_command d
  case h_11 => simp [*]
  all_goals rfl

end Sys2Proof.Machine
end

section
/-! The obligations of 20_memory.md and 10_state.md on runs, steps and cycles settled here. -/

namespace Sys2Proof.Machine

/-- Settles O18, from the case of the cycle; with nothing pending the block is kept. -/
theorem everyStepKeepsConsistency : Obligations.EveryStepKeepsConsistency := by
  intro s t hs hstep
  cases hp : s.pending with
  | nil =>
    rw [step_of_no_pending hp, idleCycle_eq_next] at hstep
    rwa [hstep, State.committed_block]
  | cons c rest => exact (blockChange_of_step hp hstep).consistent hs

/-- Settles O13: a pending cycle is run as the register map gives it, and with nothing pending the step is
idle. -/
theorem everyStepContinues : Obligations.EveryStepContinues := by
  intro s
  cases hp : s.pending with
  | nil => exact ⟨_, step_of_no_pending hp, hp, .inl rfl⟩
  | cons c rest => exact ⟨_, step_eq_afterCycle hp, rfl, afterCycle_observed_cases _ c⟩

/-- Settles O15: the instruction's word decodes to it, and the cycle that presents the word does what the
register map gives. -/
theorem execAgreesWithTheRegisterMap : Obligations.ExecAgreesWithTheRegisterMap :=
  fun _ s hwf => exec_eq_afterCycle hwf s

/-- Settles O16, by induction on the cycles (`runCycles_eq_foldl`). -/
theorem runsAreTheFoldOfTheirCycles : Obligations.RunsAreTheFoldOfTheirCycles := runCycles_eq_foldl

/-- Settles O21, by induction on the cycles: none of them changes the results. -/
theorem resultsAreSnapshots : Obligations.ResultsAreSnapshots :=
  fun cs s hcs => ⟨_, runCycles_eq_foldl cs s, foldl_afterCycle_results hcs _⟩

/-- Settles O24, by the case of the cycle. -/
theorem payloadAndVariantWriters : Obligations.PayloadAndVariantWriters := by
  intro s t c rest hp hstep
  have hchange := blockChange_of_step hp hstep
  exact ⟨hchange.payload_eq, hchange.variant_eq⟩

/-- Settles O25: a write commits the block of the register map, whose writes are idempotent but for the
feed; 0x00 fed twice after reset gives two values. -/
theorem writesAreIdempotentButForTheCrc : Obligations.WritesAreIdempotentButForTheCrc := by
  constructor
  · intro i s hwf hwrite haddr
    have hexec (u : State) : exec i u = .next (u.committed (u.block.writeReg i.addr i.data)) := by
      rw [exec_eq_afterCycle hwf, afterCycle_write _ rfl rfl hwrite]
    refine ⟨_, hexec s, ?_⟩
    rw [hexec, State.committed_block, Block.writeReg_writeReg _ _ haddr]
    rfl
  · exact ⟨State.reset, _, _, 0x00#8, rfl, rfl, by decide +kernel⟩

/-- Settles O26: the cycles between the reads keep the results, so each read answers its byte of the code
the block held when the run began. -/
theorem splitReadsAreConsistent : Obligations.SplitReadsAreConsistent := by
  intro s cs ds hcs hds
  constructor
  · obtain ⟨t, os, ps, hrun, hobs, hos, hps⟩ :=
      observed_splitReads (a0 := 0x0C#5) ⟨(codeByte1 ·.2.1), readReg_hum1⟩
        ⟨(codeByte2 ·.2.1), readReg_hum2⟩ hcs hds s
    exact ⟨t, _, _, _, os, ps, hrun, hobs, hos, hps, joinCode_readReg_hum s.block⟩
  · obtain ⟨t, os, ps, hrun, hobs, hos, hps⟩ :=
      observed_splitReads (a0 := 0x10#5) ⟨(codeByte1 ·.2.2), readReg_temp1⟩
        ⟨(codeByte2 ·.2.2), readReg_temp2⟩ hcs hds s
    exact ⟨t, _, _, _, os, ps, hrun, hobs, hos, hps, joinCode_readReg_temp s.block⟩

/-- Settles O10: of the three kinds of cycle it is a transaction. -/
theorem stepRunsTheDecodedInstruction : Obligations.StepRunsTheDecodedInstruction := by
  intro s c rest hp hr hs
  rw [step_of_pending hp, busCycle, if_pos hr, if_pos hs]
  rfl

/-- Settles O11: a reset cycle leaves the reset block, whatever else is on the pins. -/
theorem resetCycleSetsTheResetState : Obligations.ResetCycleSetsTheResetState := by
  intro s c rest hp hr
  rw [step_of_pending hp, busCycle, hr]
  rfl

/-- Settles O12: both steps are the idle cycle, which commits the block as it is. -/
theorem idleCyclesKeepTheBlock : Obligations.IdleCyclesKeepTheBlock := by
  refine fun s => ⟨fun c rest hp hr hs => ?_, step_of_no_pending⟩
  rw [step_of_pending hp, busCycle, if_pos hr, hs]
  rfl

/-- Settles O19: the reset block is the block after the empty run. -/
theorem resetIsConsistent : Obligations.ResetIsConsistent := blockAfter_consistent []

end Sys2Proof.Machine
end

section
/-! SUPPORT. A changed byte against the CRC check (42_crc.md R123 (d)). -/

namespace Sys2Proof.Machine

/-- A payload that passes the CRC check fails it with any one byte changed: a byte of P0 to P5 changes the
CRC, P6 what it is compared with. -/
theorem Payload.crcOk_set {p : Payload} {n : Fin 7} {d : Byte} (hok : p.crcOk = true)
    (hd : d ≠ p.get n) : (p.set n d).crcOk = false := by
  have hcrc : p.crc = p.p6 := beq_iff_eq.1 hok
  rw [Payload.crcOk_eq_false]
  intro h
  rcases Nat.lt_or_ge n.val 6 with hn | hn
  · have hp6 : (p.set n d).p6 = p.p6 := by
      have hne : (6 : Fin 7) ≠ n := fun h6 => absurd (h6 ▸ hn) (by decide)
      exact (p.get_set n 6 d).trans (if_neg hne)
    have hkept : (p.set n d).crc = (p.set n (p.get n)).crc := by rw [h, hp6, p.set_get, hcrc]
    exact hd (p.crc_set_injective hn hkept)
  · obtain rfl : n = 6 := by omega
    exact hd (h.symm.trans hcrc)

end Sys2Proof.Machine
end

section
/-! The obligations on the payload's CRC, its codes and the driver's outcome settled here (41_process.md,
42_crc.md, 60_exceptions.md). -/

namespace Sys2Proof.Machine

/-- Settles O42: the payload with one byte changed fails the CRC check, which AHT2x makes. -/
theorem changedByteIsNeverAccepted : Obligations.ChangedByteIsNeverAccepted := by
  intro s n d hv hok hd
  refine ⟨_, _, exec_payloadWrite n d s, exec_cmdProcess _, ?_⟩
  have hfail :
      processResult (s.block.setPayload n d).variant (s.block.setPayload n d).payload ≠ .ok := by
    simp [processResult_ok, hv, Payload.crcOk_set hok hd]
  obtain ⟨hr, hhum, htemp⟩ := Block.process_of_failed rfl hfail
  exact ⟨hr ▸ hfail, hhum, htemp⟩

/-- Settles O43: a sealed payload that is not busy passes both checks and its codes unpack. -/
theorem everyPairOfCodesDecodes : Obligations.EveryPairOfCodesDecodes :=
  fun s _ _ _ hst hp => ⟨_, exec_cmdProcess s, Block.process_seal hst hp⟩

/-- Settles O46: the driver's report is read off the outcome of PROCESS and its codes. -/
theorem driverReportsTheOutcome : Obligations.DriverReportsTheOutcome := by
  refine fun conv s => ⟨_, exec_cmdProcess s, fun hbusy => ?_, fun hbusy hv hcrc => ?_,
    fun hbusy hpass => ⟨?_, And.left, And.right⟩⟩
  · obtain ⟨hr, -⟩ := Block.process_of_failed (processResult_timeout.2 hbusy) (by decide)
    rw [driverReport, State.committed_block, hr]
  · obtain ⟨hr, -⟩ :=
      Block.process_of_failed (processResult_badcrc.2 ⟨hbusy, hv, hcrc⟩) (by decide)
    rw [driverReport, State.committed_block, hr]
  · obtain ⟨hr, hhum, htemp⟩ := Block.process_of_ok (processResult_ok.2 ⟨hbusy, hpass⟩)
    rw [driverReport, State.committed_block, hr, hhum, htemp]

/-- Settles O48, by running the CRC on each sequence. -/
theorem crcCheckValues : Obligations.CrcCheckValues := by
  unfold Obligations.CrcCheckValues
  decide +kernel

end Sys2Proof.Machine
end
